-- ==== Sys2Proof/Word.lean ====
section
/-!
DEFINITION. The word types of the MU4816 and the words as they arrive on the trunk.

A word is 32 bits and a byte 8 bits (00_scope, Conventions).  A word that arrives on the trunk carries beside its
value the mark of a coding error (R1): a check over it then fails whatever its value (R182).
-/

namespace Sys2Proof

/-- A word: 32 bits (00_scope, Numbers and units). -/
abbrev Word := BitVec 32

/-- A byte: 8 bits. -/
abbrev Byte := BitVec 8

/-- One transfer of a Tributary lane: 16 bits (R159). -/
abbrev Half := BitVec 16

/-- A round number, 0..65535, modulo 65536. -/
abbrev RoundNo := BitVec 16

/-- A serial: the 48-bit identity fixed at manufacture (R21). -/
abbrev Serial := BitVec 48

/-- A counter of the COUNTERS space: 16 bits wide (it saturates, see Machine/Flags.lean). -/
abbrev Counter := BitVec 16

/-- A word of a trunk structure as received: its value, and whether its symbol came with a coding error (R1). -/
structure RxWord where
  value : Word
  bad : Bool := false
  deriving DecidableEq, Repr

/-- A cell: one header word and 24 payload bytes, four to a word (R3, 12.1). -/
structure RxCell where
  header : RxWord
  payload : Vector RxWord 6
  deriving DecidableEq, Repr

/-- A message: a 2-word header, a body of 0 to 10 words and a 1-word check (R119). -/
structure RxMessage where
  head0 : RxWord
  head1 : RxWord
  body : List RxWord
  check : RxWord
  deriving DecidableEq, Repr

end Sys2Proof
end

