-- ==== Sys2Proof/Syntax.lean ====
section
/-!
DEFINITION. The commands of the MU4816, one constructor per row of spec/opcode_table.json.

Rows of two sorts stand in the table.  An ARRIVAL comes from outside the part: a symbol or a structure on the IN
trunk port, a tick or a round period of the timebase, a pin, a frame on the Give lane, the taking of a Take word.
It carries what arrived as its operand.  An INTERNAL STEP is one the part takes by itself once its condition
holds (a timer has reached its limit, a commit is due, a work-queue entry is to be applied).  It has no operand but
the name of the context or ring tag it is about, since all it works on stands in the state (log entry 1).
-/

namespace Sys2Proof

/-- The four markers (1.1). -/
inductive Marker where
  | roundHeader
  | trailer
  | restart
  | enumeration
  deriving DecidableEq, Repr

/-- A symbol at the IN port (1.1, R1).  One data symbol carries one word (log entry 5).  `invalid` is a symbol
received with a coding error: it has no value that the part could know. -/
inductive Symbol where
  | idle
  | data (w : Word)
  | marker (m : Marker)
  | invalid
  deriving DecidableEq, Repr

/-- The commands.  The words of a structure are given as received, check word included. -/
inductive Instr where
  -- resets, ports and link
  | hardReset (mrank : BitVec 2)
  | resetRelease
  | outPortUp
  | signalDetected
  | symbolReceived (sym : Symbol)
  | linkUp
  | errorRunLimit
  | lossOfSignal
  -- timers
  | tick
  | missedRoundMember
  | missedRoundMaster
  | seekTimeout
  | enumerationTimeout
  | isolationRetry
  -- restart, election, roll-call
  | restartMarkerArrival (w0 w1 w2 : RxWord)
  | claimFrameArrival (w0 w1 w2 w3 : RxWord)
  | rollCallArrival (w0 w1 w2 w3 : RxWord)
  -- rounds
  | roundHeaderArrival (w0 w1 w2 : RxWord)
  | roundEmission
  | returningHeaderArrival (w0 w1 w2 : RxWord)
  | returningCellArrival (cell : RxCell)
  | returningMessageArrival (msg : RxMessage)
  | returningTrailerArrival (w : RxWord)
  | commitApplied
  | slotEvent (cell : RxCell)
  | insertDrained (ctx : Fin 16)
  | staleAssembly (ctx : Fin 16)
  | contextResume
  | messageArrival (msg : RxMessage)
  | trailerArrival (w : RxWord)
  | transactionTimeout (ringTag : Fin 32)
  -- requests answered at their arrival
  | reqRead
  | reqSwap
  | claim
  | renew
  | release
  | claimExpired
  -- commands applied from the work queue
  | commitPlan
  | cancelCommit
  | startContext
  | stopContext
  | haltContext
  | flushDropQueue
  | clearEvents
  | clearCountersNode
  | clearCountersContext
  | clearCountersAll
  | takeHolder
  | dropHolder
  | restartRing
  | restartRingRelease
  | nodeReset
  | softReset
  -- writes applied from the work queue
  | writePlanEdit
  | writeContextConfig
  | writeFilters
  | writeNoticeTarget
  | writeEnableSet
  | writeGroupMembership
  | writeDropThreshold
  | writeRegister
  | noticeReminder
  -- the Tributary Port
  | insertRecord (frame : List Half)
  | localRequest (frame : List Half)
  | giveFrameUnknown (frame : List Half)
  | giveFrameAbort (frame : List Half)
  | takeFrameStart
  | takeFrameEnd
  deriving DecidableEq, Repr

end Sys2Proof
end

