-- ==== Sys2Proof/Decode.lean ====
section
/-!
DEFINITION. The command that a word spells.

Every row of the opcode table has an empty list of fields: the spec gives the commands no word encoding, for they
arrive as symbols, structures, frames, pins and the passing of time.  So no word spells a command (log entry 30).
-/

namespace Sys2Proof

/-- The command spelled by an instruction word of the table: none, since no row gives bits. -/
def decodeTableWord (_nbits _w : Nat) : Option Instr := none

end Sys2Proof
end

