-- ==== Sys2Proof/Machine/State.lean ====
section
/-!
DEFINITION. The state of the MU4816 as plain data, block by block, and its value right after reset.

Each structure is one block of 00_scope's block diagram and cites the rule that names its fields.  Fields marked
MODEL are the model's own (log entries 1, 2, 4, 6 and 23): the spec names no such register.
-/

namespace Sys2Proof.Machine

open Sys2Proof

/-! ### Trunk ports and Round Tracker -/

/-- The state of a link, and of the OUT port (R1, R2). -/
inductive LinkState where
  | down
  | training
  | up
  deriving DecidableEq, Repr

/-- The IN port (R1). -/
structure InPort where
  link : LinkState := .down
  goodIdle : Nat := 0
  errorRun : Nat := 0
  deriving DecidableEq, Repr

/-- The tracking state (R4). -/
inductive Tracking where
  | down
  | seeking
  | enumerating
  | inRound
  | isolated
  | unnumbered
  deriving DecidableEq, Repr

/-- The role (R4). -/
inductive Role where
  | member
  | master
  deriving DecidableEq, Repr

/-- The enumeration phase; `none` outside ENUMERATING (R20). -/
inductive EnumPhase where
  | none
  | claiming
  | calling
  | numbered
  deriving DecidableEq, Repr

/-- The period code: 125, 250, 500 or 1000 µs (R4). -/
inductive Period where
  | us125
  | us250
  | us500
  | us1000
  deriving DecidableEq, Repr

/-- The round parameters that a header carries (1.2). -/
structure RoundParams where
  period : Period := .us250
  slotCount : Nat := 48
  openCapacity : Nat := 192
  nodeCount : Nat := 0
  deriving DecidableEq, Repr

/-- The Round Tracker's fields (R4, R20).  A timer runs in its own tracking state only and stands at 0 outside it. -/
structure Tracker where
  tracking : Tracking := .down
  round : RoundNo := 0
  params : RoundParams := {}
  nodeId : Option Nat := none
  role : Role := .member
  missed : Nat := 0
  epoch : BitVec 16 := 0
  rank : BitVec 2 := 0
  serial : Serial := 0
  phase : EnumPhase := .none
  enumTimer : Nat := 0
  failed : Nat := 0
  seekTimer : Nat := 0
  retryTimer : Nat := 0
  callNo : BitVec 8 := 0
  deriving DecidableEq, Repr

/-- Where the framing of arriving words stands (R3, R8, R13).  `absorbing` is a returning round that the master
discards up to its trailer; `discarding` is the rest of an open region after a framing fault. -/
inductive RxPhase where
  | outside
  | slots
  | openRegion
  | discarding
  | absorbing
  deriving DecidableEq, Repr

/-- The structure whose words are being collected behind a marker; `round` is none of them: the words are cells or
messages of a round, or lie outside any structure. -/
inductive Collect where
  | round
  | header
  | trailer
  | restart
  | enumeration
  deriving DecidableEq, Repr

/-- The reception of a round: its framing under the SLOT_COUNT of its header (R3, R7), the counts of the received open region (R9), and the words of the
structure that is not yet whole. -/
structure RxRound where
  phase : RxPhase := .outside
  slotCount : Nat := 0
  slots : Nat := 0
  words : Nat := 0
  messages : Nat := 0
  outsideRun : Bool := false
  collect : Collect := .round
  buf : List RxWord := []
  deriving DecidableEq, Repr

/-- The round being sent: the words and messages sent into its open region (R132) and, at the master, the slots sent
and what is still to be carried (R14, R15). -/
structure TxRound where
  active : Bool := false
  slots : Nat := 0
  words : Nat := 0
  messages : Nat := 0
  carryCells : List RxCell := []
  carryMessages : List RxMessage := []
  deriving DecidableEq, Repr

/-- The state of the carry store (R13). -/
inductive CarryState where
  | empty
  | filling
  | complete
  deriving DecidableEq, Repr

/-- The master's carry store (R13): cells in slot order, messages in the order they arrived. -/
structure CarryStore where
  state : CarryState := .empty
  round : RoundNo := 0
  cells : List RxCell := []
  messages : List RxMessage := []
  deriving DecidableEq, Repr

/-- What the OUT port has sent, structure by structure; `symbol` is a symbol sent on in ISOLATED or UNNUMBERED (R5). -/
inductive TrunkItem where
  | header (w0 w1 w2 : RxWord)
  | cell (c : RxCell)
  | message (m : RxMessage)
  | trailer (w : RxWord)
  | restart (w0 w1 w2 : RxWord)
  | enumFrame (w0 w1 w2 w3 : RxWord)
  | symbol (s : Symbol)
  deriving DecidableEq, Repr

/-! ### Plan Store -/

/-- A plan entry (R38). -/
inductive PlanEntry where
  | pass
  | tap (ctx : Fin 16)
  | drop (ctx : Fin 16)
  | insert (ctx : Fin 16)
  | blank
  | follow
  deriving DecidableEq, Repr

/-- A plan bank: 48 slot entries and the bank default (R37). -/
structure Bank where
  slots : Vector PlanEntry 48 := Vector.replicate 48 .follow
  dflt : PlanEntry := .pass
  deriving DecidableEq, Repr

inductive BankId where
  | a
  | b
  deriving DecidableEq, Repr

/-- A step of the rotation (R40). -/
inductive RotationStep where
  | a
  | b
  | quiet
  deriving DecidableEq, Repr

/-- The rotation record (R40). -/
structure Rotation where
  length : Nat := 1
  steps : Vector RotationStep 12 := Vector.replicate 12 .a
  deriving DecidableEq, Repr

/-- What an edit changes (R46). -/
inductive EditTarget where
  | slot (bank : BankId) (slot : Fin 48)
  | bankDefault (bank : BankId)
  | rotation
  deriving DecidableEq, Repr

/-- An edit with its value: a plan entry or a rotation record (R49). -/
inductive Edit where
  | slot (bank : BankId) (slot : Fin 48) (e : PlanEntry)
  | bankDefault (bank : BankId) (e : PlanEntry)
  | rotation (r : Rotation)
  deriving DecidableEq, Repr

/-- The pending commit with its requested target (R37, R50). -/
inductive PendingCommit where
  | none
  | atTarget (target : RoundNo)
  | nextStart (target : RoundNo)
  deriving DecidableEq, Repr

/-- The round plan: the resolved action of each slot, and the QUIET mark (R42). -/
structure RoundPlan where
  quiet : Bool
  actions : List PlanEntry
  deriving DecidableEq, Repr

/-- The Plan Store (R37).  MODEL: `commitDue`, a commit is due at the round start in hand; `restartDue`, a ring
restart has been handed over and the Plan Store has not handled it yet (R55, log entry 1). -/
structure PlanStore where
  bankA : Bank := {}
  bankB : Bank := {}
  rotation : Rotation := {}
  edits : List Edit := []
  commit : PendingCommit := .none
  roundPlan : Option RoundPlan := none
  commitDue : Bool := false
  restartDue : Bool := false
  deriving DecidableEq, Repr

/-! ### Stream Contexts, Record Filters, Drop Queue, Insert Pool -/

/-- A context's direction; `code2` and `code3` are the unassigned codes, kept as written (R74, 12.3). -/
inductive Direction where
  | dropSide
  | insertSide
  | code2
  | code3
  deriving DecidableEq, Repr

inductive Combine where
  | any
  | all
  | none
  | notAll
  deriving DecidableEq, Repr

inductive CtxState where
  | idle
  | armed
  | running
  | draining
  | held
  deriving DecidableEq, Repr

inductive Resume where
  | none
  | running
  | draining
  deriving DecidableEq, Repr

/-- A context's configuration (R74). -/
structure CtxConfig where
  direction : Direction := .dropSide
  tag : BitVec 7 := 0
  filterA : Option (Fin 8) := none
  filterB : Option (Fin 8) := none
  combine : Combine := .any
  deriving DecidableEq, Repr

/-- A record in assembly (R81). -/
structure Assembly where
  cells : Nat
  payload : List Byte
  rejected : Bool
  tapped : Bool
  firstRound : RoundNo
  age : Nat
  deriving DecidableEq, Repr

/-- A record of the insert pool: its bytes, 1..384 of them (R110). -/
structure InsertRec where
  payload : List Byte
  deriving DecidableEq, Repr

/-- One stream context (R74) with its insert queue (R110).  `seq` is the sequence item, `none` for UNSET. -/
structure Context where
  config : CtxConfig := {}
  state : CtxState := .idle
  resume : Resume := .none
  seq : Option (BitVec 3) := none
  assembly : Option Assembly := none
  resync : Bool := false
  cellsSent : Nat := 0
  inFlight : Bool := false
  queue : List InsertRec := []
  counters : Vector Counter 11 := Vector.replicate 11 0
  deriving DecidableEq, Repr

/-- A filter unit: pattern and mask, byte i in bits 31 - 8i down to 24 - 8i (R97, 12.3). -/
structure FilterUnit where
  pattern : Word := 0
  mask : Word := 0
  deriving DecidableEq, Repr

/-- A drop record (R104); its length is that of its payload. -/
structure DropRec where
  ctx : Fin 16
  tag : BitVec 7
  cells : Nat
  firstRound : RoundNo
  tapped : Bool
  resync : Bool
  payload : List Byte
  deriving DecidableEq, Repr

/-- The Drop Queue, oldest record first, and the in-transfer mark of its head (R104). -/
structure DropQueue where
  records : List DropRec := []
  inTransfer : Bool := false
  deriving DecidableEq, Repr

/-! ### Responder -/

/-- The status codes (12.1). -/
inductive Status where
  | ok
  | late
  | busyRetry
  | writeAccepted
  | notOwner
  | readOnly
  | outOfRange
  | noSuchSpace
  | badRequest
  | wrongState
  | commitPending
  | editFull
  | badConfig
  | compareFailed
  | notHolder
  | notInsertSide
  | queueFull
  | poolFull
  | badLength
  | tableFull
  | ringDown
  | timedOut
  | noNode
  | noMember
  | abandoned
  | groupMissed
  deriving DecidableEq, Repr

/-- The kinds of request (R119). -/
inductive ReqKind where
  | read
  | writePosted
  | writeConfirmed
  | swap
  | command
  deriving DecidableEq, Repr

/-- How a request came (R144). -/
inductive Origin where
  | unicast
  | group
  | self
  deriving DecidableEq, Repr

/-- A request's source: a node ID, or SELF at a node that holds none (R151). -/
inductive Source where
  | node (id : Nat)
  | self
  deriving DecidableEq, Repr

/-- A request held by the Responder (R144).  `tag` is the ring tag, or for SELF the local reference; `place` says that
a reply place is reserved for it. -/
structure WorkEntry where
  kind : ReqKind
  origin : Origin
  source : Source
  tag : Nat
  place : Bool
  body : List Word
  deriving DecidableEq, Repr

/-- The two commands that are answered before they act (R149). -/
inductive Release where
  | restartRing
  | nodeReset
  deriving DecidableEq, Repr

/-- A FILLED reply place (R143), with its release mark (R149). -/
structure Reply where
  dest : Nat
  tag : Nat
  status : Status
  body : List Word
  mark : Option Release := none
  deriving DecidableEq, Repr

/-- The claim record (R151); `holder = none` is FREE. -/
structure ClaimRecord where
  holder : Option Nat := none
  lease : Nat := 0
  deriving DecidableEq, Repr

/-- The fields of a FULL failure capture (R146). -/
structure Capture where
  isCommand : Bool
  code : Nat
  index : Nat
  source : Source
  tag : Nat
  reason : Status
  deriving DecidableEq, Repr

/-- The Responder (R137).  The reply queue's FILLED places stand in `replies`, oldest first; a RESERVED place is the
`place` mark of the entry it is tied to; what is left of the three is EMPTY (log entry 18).
MODEL: `answering`, requests taken whose answer is due now; `applyDue`, how many entries at the front of the work
queue are to be applied now; `releases`, commands applied whose release is due (log entry 1). -/
structure Responder where
  work : List WorkEntry := []
  replies : List Reply := []
  claim : ClaimRecord := {}
  holder : Bool := false
  alloc : Vector Word 5 := Vector.replicate 5 0
  capture : Option Capture := none
  overrun : Bool := false
  answering : List WorkEntry := []
  applyDue : Nat := 0
  releases : List Release := []
  deriving DecidableEq, Repr

/-- The notice target (R139). -/
inductive NoticeTarget where
  | none
  | local
  | node (id : Nat)
  deriving DecidableEq, Repr

/-- NODE_CONFIG (R139) with its defaults. -/
structure NodeConfig where
  target : NoticeTarget := .local
  enable : BitVec 16 := 0
  groups : BitVec 16 := 0
  threshold : Nat := 4096
  timeout : Nat := 32
  period : Period := .us250
  slotCount : Nat := 48
  openCapacity : Nat := 192
  deriving DecidableEq, Repr

/-! ### Originator, Tributary Port, Event unit -/

/-- An entry of the Originator table (R165); `sent = false` is AWAITING_ROOM. -/
structure OrigEntry where
  ref : Nat
  tag : Nat
  dest : Nat
  kind : ReqKind
  body : List Word
  sent : Bool := false
  remaining : Nat := 0
  deriving DecidableEq, Repr

/-- A GIVE_RESULT (R160). -/
structure GiveResult where
  ref : Nat
  kind : Nat
  status : Status
  deriving DecidableEq, Repr

/-- A FILLED completion place (R164); the status is a code, since a REPLY may carry one above 25 (R183). -/
structure Completion where
  ref : Nat
  status : BitVec 8
  body : List Word
  deriving DecidableEq, Repr

/-- The received-notice place (R127). -/
structure ReceivedNotice where
  source : Nat
  pending : BitVec 16
  round : RoundNo
  deriving DecidableEq, Repr

/-- The Take frames (R162). -/
inductive TakeKind where
  | giveResult
  | completion
  | ownNotice
  | receivedNotice
  | dropRecord
  deriving DecidableEq, Repr

/-- One transfer of the Take lane: KD, KFIRST and KLAST (R159). -/
structure LaneTransfer where
  data : Half
  first : Bool
  last : Bool
  deriving DecidableEq, Repr

/-- The frame in transfer on the Take lane, with all its words and how many of its transfers have been taken (R163). -/
structure TakeFrame where
  kind : TakeKind
  words : List Word
  place : Nat
  deriving DecidableEq, Repr

/-- The Tributary Port (R127, R161 to R164).  A RESERVED completion place is the Originator entry or SELF request it is
tied to (log entry 18).  MODEL: `stalled`, Give frames that stand on the lane while GREADY is low (log entry 23);
`lane`, all transfers that the Take lane has carried, oldest first (log entry 4). -/
structure Port where
  giveResults : List GiveResult := []
  completions : List Completion := []
  notice : Option ReceivedNotice := none
  transfer : Option TakeFrame := none
  stalled : List (List Half) := []
  lane : List LaneTransfer := []
  deriving DecidableEq, Repr

inductive NoticeState where
  | idle
  | due
  deriving DecidableEq, Repr

/-- The Event unit (R173).  MODEL: `startDue`, its work at the round start in hand is still to be done (R176); `upDue` and
`lateDue`, the RING_UP or RING_LATE of the round start in hand is still to be raised (log entry 32). -/
structure EventUnit where
  pending : BitVec 16 := 0
  notice : NoticeState := .idle
  reminder : Nat := 0
  startDue : Bool := false
  upDue : Bool := false
  lateDue : Bool := false
  deriving DecidableEq, Repr

/-! ### The whole machine -/

/-- The state of one MU4816.  MODEL: `line`, all that the OUT port has sent, oldest first (log entry 4); `choice`, from
which the order of the steps that the spec leaves open is taken (log entry 2); `unknowns`, how many words of unknown
value have arrived (log entry 6); `pending`, the commands that wait, first in, first out (log entry 3). -/
structure State where
  resetAsserted : Bool := true
  inPort : InPort := {}
  outPort : LinkState := .down
  tracker : Tracker := {}
  rx : RxRound := {}
  tx : TxRound := {}
  carry : CarryStore := {}
  plan : PlanStore := {}
  contexts : Vector Context 16 := Vector.replicate 16 {}
  filters : Vector FilterUnit 8 := Vector.replicate 8 {}
  drop : DropQueue := {}
  responder : Responder := {}
  config : NodeConfig := {}
  originator : List OrigEntry := []
  port : Port := {}
  events : EventUnit := {}
  counters : Vector Counter 32 := Vector.replicate 32 0
  line : List TrunkItem := []
  choice : Nat := 0
  unknowns : Nat := 0
  pending : List Instr := []
  deriving DecidableEq, Repr

/-- The machine right after reset: RESET# has been asserted and every block holds its hard-reset value (R1, R2, R4,
R13, R20, R37, R74, R97, R104, R110, R121, R127, R137, R164, R165, R173).  The straps and the serial, which the
spec gives no number, stand at 0 (log entry 8). -/
def State.reset : State := {}

/-- Why the machine stops.  The spec gives the MU4816 no condition in which it stops, so there is no constructor: no
command faults (safe: nothing can be proved from a fault that cannot be raised). -/
inductive Fault where
  deriving DecidableEq, Repr

/-- Why a command has no meaning. -/
inductive Refusal where
  /-- A row of the table without a meaning yet.  No arm of exec answers it (safe). -/
  | notModelled (mnemonic : String)
  deriving DecidableEq, Repr

end Sys2Proof.Machine
end

