-- ==== Sys2Proof/Machine/Flags.lean ====
section
/-!
DEFINITION. The counters and the events: 16-bit counters that saturate at 65535, and the sixteen event flags with the
rule that makes a notice due (R174).
-/

namespace Sys2Proof.Machine

open Sys2Proof

/-- The node counters, in the order of the COUNTERS space, indices 0..31 (R140). -/
inductive NodeCounter where
  | codingError
  | linkDown
  | headerCheckFail
  | roundSkip
  | framingFault
  | trailerMismatch
  | lapExpired
  | carryCheckFail
  | lateReturn
  | restartOriginated
  | enumCheckFail
  | enumTimeout
  | commitPassed
  | blanked
  | sideMismatch
  | cellCheckFail
  | cellsRemoved
  | cellsInserted
  | dropRecordsTaken
  | dropRecordsFlushed
  | insertOffersRefused
  | msgCheckFail
  | msgMalformed
  | msgUndelivered
  | requestsBounced
  | noticesReplaced
  | groupReadPassed
  | groupMissed
  | msgStale
  | messagesInserted
  | roomShort
  | lateReply
  deriving DecidableEq, Repr

/-- A node counter's index in the COUNTERS space (R140). -/
def NodeCounter.index : NodeCounter → Fin 32
  | .codingError => 0
  | .linkDown => 1
  | .headerCheckFail => 2
  | .roundSkip => 3
  | .framingFault => 4
  | .trailerMismatch => 5
  | .lapExpired => 6
  | .carryCheckFail => 7
  | .lateReturn => 8
  | .restartOriginated => 9
  | .enumCheckFail => 10
  | .enumTimeout => 11
  | .commitPassed => 12
  | .blanked => 13
  | .sideMismatch => 14
  | .cellCheckFail => 15
  | .cellsRemoved => 16
  | .cellsInserted => 17
  | .dropRecordsTaken => 18
  | .dropRecordsFlushed => 19
  | .insertOffersRefused => 20
  | .msgCheckFail => 21
  | .msgMalformed => 22
  | .msgUndelivered => 23
  | .requestsBounced => 24
  | .noticesReplaced => 25
  | .groupReadPassed => 26
  | .groupMissed => 27
  | .msgStale => 28
  | .messagesInserted => 29
  | .roomShort => 30
  | .lateReply => 31

/-- The eleven context counters (R95, R140). -/
inductive CtxCounter where
  | cells
  | records
  | seqGap
  | checkFail
  | filterReject
  | stale
  | queueFullDiscard
  | tooLong
  | tagMismatch
  | noData
  | collision
  deriving DecidableEq, Repr

def CtxCounter.index : CtxCounter → Fin 11
  | .cells => 0
  | .records => 1
  | .seqGap => 2
  | .checkFail => 3
  | .filterReject => 4
  | .stale => 5
  | .queueFullDiscard => 6
  | .tooLong => 7
  | .tagMismatch => 8
  | .noData => 9
  | .collision => 10

/-- A counter raised by n; it saturates at 65535 (00_scope, Counters). -/
def satAdd (c : Counter) (n : Nat) : Counter := BitVec.ofNat 16 (min 65535 (c.toNat + n))

/-- A node counter raised by n. -/
def State.countN (c : NodeCounter) (n : Nat) (s : State) : State :=
  { s with counters := s.counters.set c.index (satAdd s.counters[c.index] n) }

/-- A node counter counts one. -/
def State.count (c : NodeCounter) (s : State) : State := s.countN c 1

/-- A context counter counts one. -/
def Context.count (c : CtxCounter) (x : Context) : Context :=
  { x with counters := x.counters.set c.index (satAdd x.counters[c.index] 1) }

/-- The sixteen events (11.1). -/
inductive Event where
  | ringRestarted
  | ringUp
  | roundLost
  | isolated
  | unnumbered
  | ringLate
  | commitApplied
  | commitCancelled
  | writeFailed
  | slotCollision
  | dropQueueFull
  | dropQueueThreshold
  | staleAssembly
  | claimExpired
  | inputCheckFail
  | insertDrained
  deriving DecidableEq, Repr

/-- An event's bit in the pending set and in the enable set: event n in bit n - 1 (R173). -/
def Event.bit : Event → Nat
  | .ringRestarted => 0
  | .ringUp => 1
  | .roundLost => 2
  | .isolated => 3
  | .unnumbered => 4
  | .ringLate => 5
  | .commitApplied => 6
  | .commitCancelled => 7
  | .writeFailed => 8
  | .slotCollision => 9
  | .dropQueueFull => 10
  | .dropQueueThreshold => 11
  | .staleAssembly => 12
  | .claimExpired => 13
  | .inputCheckFail => 14
  | .insertDrained => 15

/-- The set that holds one event. -/
def Event.mask (e : Event) : BitVec 16 := 1#16 <<< e.bit

/-- What raising e does to the Event unit (R174): a new event becomes pending, and makes a notice due if it is enabled
and the notice target is not NONE; a repeat changes nothing. -/
def EventUnit.raise (c : NodeConfig) (e : Event) (u : EventUnit) : EventUnit :=
  if u.pending.getLsbD e.bit then u
  else
    { u with
      pending := u.pending ||| e.mask
      notice := if c.enable.getLsbD e.bit && c.target != .none then .due else u.notice }

/-- An event is raised (R174). -/
def State.raise (e : Event) (s : State) : State := { s with events := s.events.raise s.config e }

/-- RING_UP at the round start that brings the node IN_ROUND: raised at once where `now`, else due as a step of that round
start (R176, log entry 32). -/
def EventUnit.startUp (now : Bool) (c : NodeConfig) (u : EventUnit) : EventUnit :=
  if now then u.raise c .ringUp else { u with upDue := true }

/-- RING_LATE at the emission that finds a round late: raised at once where `now`, else due as a step of that round start
(R178, log entry 32). -/
def EventUnit.startLate (now : Bool) (c : NodeConfig) (u : EventUnit) : EventUnit :=
  if now then u.raise c .ringLate else { u with lateDue := true }

/-- The RING_UP that is due is raised. -/
def EventUnit.takeUp (c : NodeConfig) (u : EventUnit) : EventUnit :=
  if u.upDue then ({ u with upDue := false } : EventUnit).raise c .ringUp else u

/-- The RING_LATE that is due is raised. -/
def EventUnit.takeLate (c : NodeConfig) (u : EventUnit) : EventUnit :=
  if u.lateDue then ({ u with lateDue := false } : EventUnit).raise c .ringLate else u

/-- RING_UP in either order with the other work of its round start: the order is drawn from `choice` (R176, log entry 32). -/
def State.startUp (s : State) : State :=
  { s with choice := s.choice / 2, events := s.events.startUp (s.choice % 2 == 0) s.config }

/-- RING_LATE in either order with the other work of its round start (R175, R176, R178): drawn from `choice` (log entry 32). -/
def State.startLate (s : State) : State :=
  { s with choice := s.choice / 2, events := s.events.startLate (s.choice % 2 == 0) s.config }

def State.takeUp (s : State) : State := { s with events := s.events.takeUp s.config }
def State.takeLate (s : State) : State := { s with events := s.events.takeLate s.config }

/-- At least one event is both pending and enabled, and the target is not NONE (R176). -/
def State.reminderRuns (s : State) : Bool :=
  (s.events.pending &&& s.config.enable) != 0 && s.config.target != .none

end Sys2Proof.Machine
end

