-- ==== Sys2Proof/Config.lean ====
section
/-!
DEFINITION. What one MU4816 fixes, and the free values.

The sizes below are the spec's own numbers, each with its rule.  The three opaque constants have no body: nothing can
be proved of their values.
-/

namespace Sys2Proof.Config

/-- The n-th word of unknown value.  A symbol received with a coding error is handed on as a data symbol of unknown
value (R1), so its value is free (log entry 6). -/
opaque unknownWord : Nat → Word

/-- Whether a write of a context's configuration that meets both a context that is not IDLE and a refused field is
answered WRONG_STATE (true) or BAD_REQUEST (false): R75 and R100 give both refusals and no order (log entry 27). -/
opaque contextWriteChecksStateFirst : Bool

/-- What the failure capture reads as the first body word of a group request that carries no body at all: the capture
holds "the space code of a write, or the command code" (R146), and there is none (log entry 28). -/
opaque emptyBodyWord : Word

/-- Idle symbols that train a link (R1, R2). -/
def trainingIdles : Nat := 32
/-- The error run that takes a link down (R1). -/
def errorRunLimit : Nat := 16
/-- Ticks without a round header that lose the round stream (R10, R17). -/
def missedRoundLimit : Nat := 3
/-- Ticks of the seek timer (R23). -/
def seekLimit : Nat := 32
/-- Ticks of one enumeration attempt (R34). -/
def enumerationLimit : Nat := 32
/-- Failed attempts that isolate a node (R34). -/
def attemptLimit : Nat := 4
/-- Ticks of isolation before the retry (R35). -/
def isolationLimit : Nat := 4096
/-- Round starts a record may stay in assembly (R89). -/
def staleLimit : Nat := 64
/-- Round starts between reminders (R176). -/
def reminderLimit : Nat := 512
/-- Edits the edit list holds (R47). -/
def editLimit : Nat := 16
/-- Bytes and records of the Drop Queue (R105). -/
def dropBytes : Nat := 8192
def dropRecords : Nat := 64
/-- Bytes of the insert pool, and records of one insert queue (R110). -/
def poolBytes : Nat := 4096
def queueRecords : Nat := 4
/-- Work-queue entries, reply places, Originator entries (R144). -/
def workLimit : Nat := 4
def replyPlaces : Nat := 3
def tableLimit : Nat := 4
/-- GIVE_RESULTs that may wait (R161), and completion places (R164). -/
def giveResultLimit : Nat := 4
def completionPlaces : Nat := 8
/-- Cells of a record (R86). -/
def recordCells : Nat := 16
/-- The lease range of a claim (R152). -/
def leaseMin : Nat := 16
def leaseMax : Nat := 4096
/-- IDENTITY word 2: part code 4816, revision 1 (12.3). -/
def partWord : Word := BitVec.ofNat 32 (4816 * 65536 + 1)

end Sys2Proof.Config
end

