-- ==== Sys2Proof/Machine/Operands.lean ====
section
/-!
DEFINITION. Reading and building what crosses a pin: bit fields, bytes, the checks (R182), the layouts (12.1, 12.2), and
what a receiver makes of values outside their ranges (R183).
-/

namespace Sys2Proof.Machine

open Sys2Proof

/-! ### Bit fields and bytes -/

/-- Bits hi down to lo of a word, as a number (12, "15:8 occupies bits 15 down to 8"). -/
def bits (w : Word) (hi lo : Nat) : Nat := (w.toNat >>> lo) % 2 ^ (hi - lo + 1)

/-- A word with v in its bits hi down to lo, v cut to that width. -/
def field (hi lo v : Nat) : Word := BitVec.ofNat 32 ((v % 2 ^ (hi - lo + 1)) <<< lo)

/-- Bit i of a word. -/
def bit (w : Word) (i : Nat) : Bool := w.getLsbD i

/-- A word with bit i as b. -/
def flag (i : Nat) (b : Bool) : Word := if b then field i i 1 else 0

/-- The four bytes of a word, byte 0 in bits 31:24 (R182). -/
def wordBytes (w : Word) : List Byte :=
  [BitVec.ofNat 8 (bits w 31 24), BitVec.ofNat 8 (bits w 23 16), BitVec.ofNat 8 (bits w 15 8), BitVec.ofNat 8 (bits w 7 0)]

/-- Four bytes as a word, byte 0 in bits 31:24. -/
def bytesWord (b0 b1 b2 b3 : Byte) : Word :=
  field 31 24 b0.toNat ||| field 23 16 b1.toNat ||| field 15 8 b2.toNat ||| field 7 0 b3.toNat

/-- Byte i of a payload, zero past its end (R70, R182). -/
def byteAt (p : List Byte) (i : Nat) : Byte := p.getD i 0

/-- Word i of a payload, its bytes past the payload's end zero. -/
def payloadWord (p : List Byte) (i : Nat) : Word :=
  bytesWord (byteAt p (4 * i)) (byteAt p (4 * i + 1)) (byteAt p (4 * i + 2)) (byteAt p (4 * i + 3))

/-- A length rounded up to a multiple of 4 (R104, R110). -/
def roundUp4 (n : Nat) : Nat := (n + 3) / 4 * 4

/-- The words of a payload: ⌈length / 4⌉ of them (12.2). -/
def payloadWords (p : List Byte) : List Word := (List.range ((p.length + 3) / 4)).map (payloadWord p)

/-! ### The checks (R182) -/

/-- The bits of a word from 31 down to lo, in transmission order: most significant first. -/
def wordBits (w : Word) (lo : Nat) : List Bool := (List.range (32 - lo)).map fun i => w.getMsbD i

/-- One bit into a CRC-8 with x^8 + x^2 + x + 1. -/
def crc8Step (c : BitVec 8) (b : Bool) : BitVec 8 := if c.msb != b then (c <<< 1) ^^^ 0x07#8 else c <<< 1

/-- One bit into a CRC-32 with the polynomial of R182. -/
def crc32Step (c : Word) (b : Bool) : Word := if c.msb != b then (c <<< 1) ^^^ 0x04C11DB7#32 else c <<< 1

/-- CRC-8: preset all ones, final as computed. -/
def crc8 (bs : List Bool) : BitVec 8 := bs.foldl crc8Step 0xFF#8

/-- CRC-32 over words: preset all ones, final inverted. -/
def crc32 (ws : List Word) : Word := ~~~((ws.flatMap fun w => wordBits w 0).foldl crc32Step 0xFFFFFFFF#32)

/-- Words that arrived are good under a CRC-32 check word: the values agree and no covered symbol nor the check itself
came with a coding error (R182). -/
def crc32Good (ws : List RxWord) (check : RxWord) : Bool :=
  ws.all (fun w => !w.bad) && !check.bad && crc32 (ws.map (·.value)) == check.value

/-- A word the part sends. -/
def sendWord (w : Word) : RxWord := { value := w }

/-! ### Cells (12.1, R58, R59) -/

def cellTag (c : RxCell) : Nat := bits c.header.value 31 25
def cellSeq (c : RxCell) : BitVec 3 := BitVec.ofNat 3 (bits c.header.value 24 22)
/-- The boundary: 0 START, 1 MIDDLE, 2 END, 3 WHOLE. -/
def cellBoundary (c : RxCell) : Nat := bits c.header.value 21 20
def cellFill (c : RxCell) : Nat := bits c.header.value 19 15
def cellLap (c : RxCell) : Bool := bit c.header.value 14
def cellCheck (c : RxCell) : BitVec 8 := BitVec.ofNat 8 (bits c.header.value 7 0)

/-- The cell check over header bits 31:8 and the 24 payload bytes. -/
def cellCrc (c : RxCell) : BitVec 8 :=
  crc8 (wordBits c.header.value 8 ++ c.payload.toList.flatMap fun w => wordBits w.value 0)

/-- The cell holds a symbol received with a coding error (R58). -/
def cellCodingError (c : RxCell) : Bool := c.header.bad || c.payload.toList.any (·.bad)

/-- DAMAGED, where the check is made (R58). -/
def cellDamaged (c : RxCell) : Bool := cellCodingError c || cellCrc c != cellCheck c

/-- The 24 payload bytes. -/
def cellBytes (c : RxCell) : List Byte := c.payload.toList.flatMap fun w => wordBytes w.value

/-- The first four payload bytes as one word, byte 0 in bits 31:24: the test bytes of R98. -/
def cellTestBytes (c : RxCell) : Word := c.payload[0].value

/-- The cell with a fresh check. -/
def refreshCell (c : RxCell) : RxCell :=
  { c with header := { c.header with value := (c.header.value &&& 0xFFFFFF00#32) ||| field 7 0 (cellCrc c).toNat } }

/-- A cell of the given fields with a fresh check; the payload is cut or filled to 24 bytes (R70). -/
def buildCell (tag : Nat) (seq : BitVec 3) (boundary fill : Nat) (payload : List Byte) : RxCell :=
  refreshCell
    { header := sendWord (field 31 25 tag ||| field 24 22 seq.toNat ||| field 21 20 boundary ||| field 19 15 fill)
      payload := Vector.ofFn fun i => sendWord (payloadWord payload i) }

/-- The idle cell that the part sends (R59). -/
def idleCell : RxCell := buildCell 0 0 0 0 []

/-- The cell with the lap flag set and a fresh check (R14). -/
def lapCell (c : RxCell) : RxCell :=
  refreshCell { c with header := { c.header with value := c.header.value ||| flag 14 true } }

/-! ### Round headers and trailers (12.1) -/

def periodCode : Period → Nat
  | .us125 => 0
  | .us250 => 1
  | .us500 => 2
  | .us1000 => 3

def periodOfCode : Nat → Period
  | 0 => .us125
  | 1 => .us250
  | 2 => .us500
  | _ => .us1000

/-- The period in µs (R139). -/
def periodMicros : Period → Nat
  | .us125 => 125
  | .us250 => 250
  | .us500 => 500
  | .us1000 => 1000

def periodOfMicros (v : Nat) : Option Period :=
  if v = 125 then some .us125 else if v = 250 then some .us250 else if v = 500 then some .us500
  else if v = 1000 then some .us1000 else none

/-- Words in one period: 6.4 × P (R12). -/
def wordsPerPeriod : Period → Nat
  | .us125 => 800
  | .us250 => 1600
  | .us500 => 3200
  | .us1000 => 6400

def headerRound (w0 : RxWord) : RoundNo := BitVec.ofNat 16 (bits w0.value 31 16)

def headerParams (w0 w1 : RxWord) : RoundParams :=
  { period := periodOfCode (bits w0.value 9 8)
    slotCount := bits w0.value 15 10
    openCapacity := bits w1.value 31 23
    nodeCount := bits w0.value 5 0 }

/-- The ranges of a header's fields (R183). -/
def paramsInRange (p : RoundParams) : Bool :=
  1 ≤ p.slotCount && p.slotCount ≤ 48 && 32 ≤ p.openCapacity && p.openCapacity ≤ 480 && p.nodeCount ≤ 60

/-- A header whose check is good and whose fields are in range; any other is a header whose check fails (R183). -/
def headerGood (w0 w1 w2 : RxWord) : Bool := crc32Good [w0, w1] w2 && paramsInRange (headerParams w0 w1)

def headerWord0 (n : RoundNo) (p : RoundParams) : Word :=
  field 31 16 n.toNat ||| field 15 10 p.slotCount ||| field 9 8 (periodCode p.period) ||| field 5 0 p.nodeCount

def headerWord1 (p : RoundParams) : Word := field 31 23 p.openCapacity

/-- A header as the part builds it, with a fresh check (R7, R11). -/
def buildHeader (n : RoundNo) (p : RoundParams) : TrunkItem :=
  .header (sendWord (headerWord0 n p)) (sendWord (headerWord1 p)) (sendWord (crc32 [headerWord0 n p, headerWord1 p]))

def trailerRoom (w : RxWord) : Nat := bits w.value 31 23
def trailerCount (w : RxWord) : Nat := bits w.value 22 15
def trailerGood (w : RxWord) : Bool :=
  !w.bad && (crc8 (wordBits w.value 8)).toNat == bits w.value 7 0

/-- The trailer word the part sends, with a fresh check (R9). -/
def buildTrailer (room count : Nat) : TrunkItem :=
  let w := field 31 23 room ||| field 22 15 count
  .trailer (sendWord (w ||| field 7 0 (crc8 (wordBits w 8)).toNat))

/-! ### RESTART markers and enumeration frames (12.1) -/

def serialOf (low high : RxWord) : Serial := BitVec.ofNat 48 (bits high.value 15 0 * 2 ^ 32 + low.value.toNat)
def serialLow (s : Serial) : Word := s.setWidth 32
def serialHigh (s : Serial) : Word := (s >>> 32).setWidth 32

def restartGood (w0 w1 w2 : RxWord) : Bool := crc32Good [w0, w1] w2

def buildRestart (s : Serial) : TrunkItem :=
  .restart (sendWord (serialLow s)) (sendWord (serialHigh s)) (sendWord (crc32 [serialLow s, serialHigh s]))

def frameKind (w0 : RxWord) : Nat := bits w0.value 31 28
def frameRank (w0 : RxWord) : Nat := bits w0.value 27 26
def frameCall (w0 : RxWord) : BitVec 8 := BitVec.ofNat 8 (bits w0.value 25 18)
def frameNextId (w0 : RxWord) : Nat := bits w0.value 17 12

/-- An enumeration frame whose check is good and whose fields are in range (R183).  The call number and next-ID of a CLAIM are
not looked at (log entry 46). -/
def enumGood (w0 w1 w2 w3 : RxWord) : Bool :=
  crc32Good [w0, w1, w2] w3 && frameRank w0 != 0 &&
    (frameKind w0 == 1 || (frameKind w0 == 2 && 1 ≤ frameNextId w0 && frameNextId w0 ≤ 60))

def enumWord0 (kind rank call nextId : Nat) : Word :=
  field 31 28 kind ||| field 27 26 rank ||| field 25 18 call ||| field 17 12 nextId

def buildEnum (w0 : Word) (s : Serial) : TrunkItem :=
  .enumFrame (sendWord w0) (sendWord (serialLow s)) (sendWord (serialHigh s))
    (sendWord (crc32 [w0, serialLow s, serialHigh s]))

/-- A CLAIM frame (2.3). -/
def buildClaim (rank : BitVec 2) (s : Serial) : TrunkItem := buildEnum (enumWord0 1 rank.toNat 0 0) s

/-- A ROLL_CALL frame (2.4). -/
def buildRollCall (rank : BitVec 2) (s : Serial) (call : BitVec 8) (nextId : Nat) : TrunkItem :=
  buildEnum (enumWord0 2 rank.toNat call.toNat nextId) s

/-- The first word of a ROLL_CALL with next-ID increased by one (R30); its other bits as they came. -/
def nextRollCallWord (w0 : Word) : Word :=
  (w0 &&& ~~~(field 17 12 63)) ||| field 17 12 (bits w0 17 12 + 1)

/-- The ROLL_CALL forwarded with next-ID increased by one and a fresh check (R30).  Bits that no table assigns go on as
received (log entry 42). -/
def forwardRollCall (w0 w1 w2 : RxWord) : TrunkItem :=
  .enumFrame { w0 with value := nextRollCallWord w0.value } w1 w2
    (sendWord (crc32 [nextRollCallWord w0.value, w1.value, w2.value]))

/-! ### Messages (12.1, R119) -/

def msgKind (m : RxMessage) : Nat := bits m.head0.value 31 29
def msgDest (m : RxMessage) : Nat := bits m.head0.value 28 22
def msgSource (m : RxMessage) : Nat := bits m.head0.value 21 16
def msgTag (m : RxMessage) : Nat := bits m.head0.value 15 11
def msgHops (m : RxMessage) : Nat := bits m.head0.value 10 4
def msgClaimed (m : RxMessage) : Bool := bit m.head0.value 3
def msgBounced (m : RxMessage) : Bool := bit m.head0.value 2
def msgStatus (m : RxMessage) : BitVec 8 := BitVec.ofNat 8 (bits m.head1.value 31 24)
/-- The body length that a second header word carries. -/
def bodyLengthOf (head1 : RxWord) : Nat := bits head1.value 23 20
def msgBodyLength (m : RxMessage) : Nat := bodyLengthOf m.head1
def msgBody (m : RxMessage) : List Word := m.body.map (·.value)
/-- The words of a message: 3 + b (R3). -/
def msgLength (m : RxMessage) : Nat := 3 + m.body.length

def msgGood (m : RxMessage) : Bool := crc32Good (m.head0 :: m.head1 :: m.body) m.check

/-- The kind codes of the five requests. -/
def reqKindOfCode : Nat → Option ReqKind
  | 0 => some .read
  | 1 => some .writePosted
  | 2 => some .writeConfirmed
  | 3 => some .swap
  | 4 => some .command
  | _ => none

def reqKindCode : ReqKind → Nat
  | .read => 0
  | .writePosted => 1
  | .writeConfirmed => 2
  | .swap => 3
  | .command => 4

/-- A destination that addresses a group (R120). -/
def isGroupDest (d : Nat) : Bool := 64 ≤ d && d ≤ 79
/-- The destination values assigned on the trunk (R120). -/
def isTrunkDest (d : Nat) : Bool := d ≤ 59 || isGroupDest d || d == 127

/-- The malformed messages of R123. -/
def msgMalformed (m : RxMessage) : Bool :=
  msgKind m == 7 || !isTrunkDest (msgDest m) || 59 < msgSource m ||
    ((msgKind m == 5 || msgKind m == 6) && 59 < msgDest m) ||
    (msgKind m == 6 && m.body.length != 2)

def msgWord0 (kind dest source tag hops : Nat) (claimed bounced : Bool) : Word :=
  field 31 29 kind ||| field 28 22 dest ||| field 21 16 source ||| field 15 11 tag ||| field 10 4 hops |||
    flag 3 claimed ||| flag 2 bounced

def msgWord1 (status bodyLength : Nat) : Word := field 31 24 status ||| field 23 20 bodyLength

/-- A message with a fresh check. -/
def sealMessage (w0 w1 : Word) (body : List Word) : RxMessage :=
  { head0 := sendWord w0, head1 := sendWord w1, body := body.map sendWord, check := sendWord (crc32 (w0 :: w1 :: body)) }

/-- A message of the node's own: CLAIMED clear, and BOUNCED only on a bounce (R126, R134). -/
def buildMessage (kind dest source tag hops : Nat) (bounced : Bool) (status : Nat) (body : List Word) : RxMessage :=
  sealMessage (msgWord0 kind dest source tag hops false bounced) (msgWord1 status body.length) body

/-- A forwarded message: the hop budget one less, CLAIMED set if asked, the check computed afresh (R130, R131).  Bits that no
table assigns go on as received (log entry 42). -/
def forwardedMessage (m : RxMessage) (setClaimed : Bool) : RxMessage :=
  sealMessage
    ((m.head0.value &&& ~~~(field 10 4 127)) ||| field 10 4 (msgHops m - 1) ||| flag 3 setClaimed)
    m.head1.value (msgBody m)

/-! ### Request bodies (12.1) -/

/-- The body lengths that fit a kind (12.1, R141). -/
def bodyFits (kind : ReqKind) (body : List Word) : Bool :=
  match kind with
  | .read => body.length == 1
  | .writePosted => 1 ≤ body.length && body.length ≤ 10
  | .writeConfirmed => 1 ≤ body.length && body.length ≤ 10
  | .swap => body.length == 3
  | .command => body.length == 1

def bodyWord (body : List Word) (i : Nat) : Word := body.getD i 0
def reqSpace (body : List Word) : Nat := bits (bodyWord body 0) 31 24
def reqIndex (body : List Word) : Nat := bits (bodyWord body 0) 23 16
def reqCount (body : List Word) : Nat := bits (bodyWord body 0) 3 0
/-- The words to write, in index order. -/
def reqData (body : List Word) : List Word := body.drop 1
def reqCommand (body : List Word) : Nat := bits (bodyWord body 0) 31 24
def reqForm (body : List Word) : Nat := bits (bodyWord body 0) 17 16
def reqOperand (body : List Word) : Nat := bits (bodyWord body 0) 15 0

/-! ### Statuses (12.1) -/

def statusCode : Status → Nat
  | .ok => 0
  | .late => 1
  | .busyRetry => 2
  | .writeAccepted => 3
  | .notOwner => 4
  | .readOnly => 5
  | .outOfRange => 6
  | .noSuchSpace => 7
  | .badRequest => 8
  | .wrongState => 9
  | .commitPending => 10
  | .editFull => 11
  | .badConfig => 12
  | .compareFailed => 13
  | .notHolder => 14
  | .notInsertSide => 15
  | .queueFull => 16
  | .poolFull => 17
  | .badLength => 18
  | .tableFull => 19
  | .ringDown => 20
  | .timedOut => 21
  | .noNode => 22
  | .noMember => 23
  | .abandoned => 24
  | .groupMissed => 25

def statusByte (s : Status) : BitVec 8 := BitVec.ofNat 8 (statusCode s)

/-- A status that says the request was refused; LATE is not a refusal (R147). -/
def isRefusal : Status → Bool
  | .ok => false
  | .late => false
  | .writeAccepted => false
  | _ => true

/-! ### Tributary frames (12.2) -/

/-- The words of a Give frame, two transfers to a word, bits 31:16 first; a transfer left over makes no word (R160). -/
def frameWords : List Half → List Word
  | a :: b :: rest => (a ++ b) :: frameWords rest
  | _ => []

/-- The frame ended with an odd number of transfers (R160). -/
def frameOdd (f : List Half) : Bool := f.length % 2 == 1
/-- The frame ended before its header word was complete (R160). -/
def frameShort (f : List Half) : Bool := f.length < 2
def frameHead (f : List Half) : Word := (frameWords f).getD 0 0
def frameBody (f : List Half) : List Word := (frameWords f).drop 1
def giveKind (f : List Half) : Nat := bits (frameHead f) 31 24
def giveRef (f : List Half) : Nat := bits (frameHead f) 23 16
/-- INSERT_RECORD: 15:11 context, 8:0 length. -/
def giveContext (f : List Half) : Nat := bits (frameHead f) 15 11
def giveLength (f : List Half) : Nat := bits (frameHead f) 8 0
/-- LOCAL_REQUEST: 15:9 destination, 8:6 request kind, 3:0 body length. -/
def giveDest (f : List Half) : Nat := bits (frameHead f) 15 9
def giveReqKind (f : List Half) : Nat := bits (frameHead f) 8 6
def giveBodyLength (f : List Half) : Nat := bits (frameHead f) 3 0

/-- The halves of words on a lane, bits 31:16 first (R182). -/
def laneHalves (ws : List Word) : List Half := ws.flatMap fun (w : Word) => [(w >>> 16).setWidth 16, w.setWidth 16]

/-- The transfers of a Take frame: KFIRST marks the first and KLAST the last (R159). -/
def laneTransfers (ws : List Word) : List LaneTransfer :=
  (laneHalves ws).zipIdx.map fun (h, i) => { data := h, first := i == 0, last := i + 1 == (laneHalves ws).length }

/-- The record bytes of an INSERT_RECORD: the first `length` payload bytes; bytes past them are not read (R182). -/
def recordBytes (f : List Half) : List Byte := ((frameBody f).flatMap wordBytes).take (giveLength f)

/-! ### Words of the spaces (12.3) -/

def planEntryWord : PlanEntry → Word
  | .pass => 0
  | .tap c => field 31 29 1 ||| field 28 25 c.val
  | .drop c => field 31 29 2 ||| field 28 25 c.val
  | .insert c => field 31 29 3 ||| field 28 25 c.val
  | .blank => field 31 29 4
  | .follow => field 31 29 5

/-- A number below 16 as a context number. -/
def ctxOf (n : Nat) : Fin 16 := Fin.ofNat 16 n

/-- The plan entry of a word, none for the action codes 6 and 7 (R46).  An action that names no context has none
(log entry 17). -/
def planEntryOf (w : Word) : Option PlanEntry :=
  match bits w 31 29 with
  | 0 => some .pass
  | 1 => some (.tap (ctxOf (bits w 28 25)))
  | 2 => some (.drop (ctxOf (bits w 28 25)))
  | 3 => some (.insert (ctxOf (bits w 28 25)))
  | 4 => some .blank
  | 5 => some .follow
  | _ => none

def stepCode : RotationStep → Nat
  | .a => 0
  | .b => 1
  | .quiet => 2

def stepOfCode : Nat → Option RotationStep
  | 0 => some .a
  | 1 => some .b
  | 2 => some .quiet
  | _ => none

def rotationWord (r : Rotation) : Word :=
  (List.finRange 12).foldl (fun w k => w ||| field (2 * k.val + 1) (2 * k.val) (stepCode r.steps[k])) (field 31 28 r.length)

/-- The rotation record of a word; none where the length is 0 or above 12 or a step code is 3 (R40). -/
def rotationOf (w : Word) : Option Rotation :=
  let len := bits w 31 28
  if 1 ≤ len && len ≤ 12 && (List.range 12).all (fun k => bits w (2 * k + 1) (2 * k) != 3) then
    some { length := len
           steps := Vector.ofFn fun k : Fin 12 => (stepOfCode (bits w (2 * k.val + 1) (2 * k.val))).getD .a }
  else none

def directionCode : Direction → Nat
  | .dropSide => 0
  | .insertSide => 1
  | .code2 => 2
  | .code3 => 3

def directionOf : Nat → Direction
  | 0 => .dropSide
  | 1 => .insertSide
  | 2 => .code2
  | _ => .code3

def filterRefCode : Option (Fin 8) → Nat
  | none => 15
  | some u => u.val

/-- A filter reference code: 0..7, or 15 for none; other codes are refused (R75, R100). -/
def filterRefOf (c : Nat) : Option (Option (Fin 8)) :=
  if c < 8 then some (some (Fin.ofNat 8 c)) else if c = 15 then some none else none

def combineCode : Combine → Nat
  | .any => 0
  | .all => 1
  | .none => 2
  | .notAll => 3

def combineOf : Nat → Option Combine
  | 0 => some .any
  | 1 => some .all
  | 2 => some .none
  | 3 => some .notAll
  | _ => none

def ctxConfigWord (c : CtxConfig) : Word :=
  field 31 30 (directionCode c.direction) ||| field 29 23 c.tag.toNat ||| field 22 19 (filterRefCode c.filterA) |||
    field 18 15 (filterRefCode c.filterB) ||| field 14 12 (combineCode c.combine)

/-- A configuration word; none where a filter reference or the combine mode is refused (R100). -/
def ctxConfigOf (w : Word) : Option CtxConfig :=
  match filterRefOf (bits w 22 19), filterRefOf (bits w 18 15), combineOf (bits w 14 12) with
  | some a, some b, some m =>
    some { direction := directionOf (bits w 31 30), tag := BitVec.ofNat 7 (bits w 29 23), filterA := a, filterB := b, combine := m }
  | _, _, _ => none

def targetWord : NoticeTarget → Word
  | .none => 127
  | .local => 126
  | .node id => BitVec.ofNat 32 id

/-- A notice target: 0..59, 126 LOCAL or 127 NONE (R139, 12.3).  The word is read whole (log entry 26). -/
def targetOf (w : Word) : Option NoticeTarget :=
  if w.toNat ≤ 59 then some (.node w.toNat) else if w.toNat = 126 then some .local
  else if w.toNat = 127 then some .none else none

def trackingCode : Tracking → Nat
  | .down => 0
  | .seeking => 1
  | .enumerating => 2
  | .inRound => 3
  | .isolated => 4
  | .unnumbered => 5

def ctxStateCode : CtxState → Nat
  | .idle => 0
  | .armed => 1
  | .running => 2
  | .draining => 3
  | .held => 4

def resumeCode : Resume → Nat
  | .none => 0
  | .running => 1
  | .draining => 2

/-- The source of a captured request: a node ID, or 126 for SELF (12.3). -/
def sourceCode : Source → Nat
  | .node id => id
  | .self => 126

end Sys2Proof.Machine
end

