-- ==== Sys2Proof/Machine/Ops.lean ====
section
/-!
DEFINITION. The named operations that several commands share: sending on the trunk, updating a context, completing a
local request, the sums that the two stores keep, the ring restart handed to every block, originating a restart, and
the resets.
-/

namespace Sys2Proof.Machine

open Sys2Proof

/-! ### Sending -/

/-- The OUT port sends a structure.  What falls due while the port is not UP is not sent (R2). -/
def State.emit (x : TrunkItem) (s : State) : State :=
  if s.outPort = .up then { s with line := s.line ++ [x] } else s

/-! ### Contexts -/

/-- Context c is changed by f. -/
def State.mapCtx (c : Fin 16) (f : Context → Context) (s : State) : State :=
  { s with contexts := s.contexts.set c (f s.contexts[c]) }

def State.inRound (s : State) : Bool := s.tracker.tracking == .inRound
def State.isMaster (s : State) : Bool := s.tracker.role == .master

/-! ### The two stores' sums -/

/-- The charge of a drop record: 8 bytes plus its length rounded up to a multiple of 4 (R104). -/
def dropCharge (r : DropRec) : Nat := 8 + roundUp4 r.payload.length

/-- The Drop Queue's occupancy (R104). -/
def dropOccupancy (q : DropQueue) : Nat := (q.records.map dropCharge).sum

/-- The charge of an insert record: 4 bytes plus its length rounded up to a multiple of 4 (R110). -/
def insertCharge (r : InsertRec) : Nat := 4 + roundUp4 r.payload.length

/-- The charges of one insert queue. -/
def queueCharge (c : Context) : Nat := (c.queue.map insertCharge).sum

/-- The insert pool's occupancy: the charges of all records in all queues (R110). -/
def State.poolOccupancy (s : State) : Nat := (s.contexts.toList.map queueCharge).sum

/-- The cells of an insert record: ⌈B / 24⌉ (R70). -/
def recordCells (r : InsertRec) : Nat := (r.payload.length + 23) / 24

/-! ### Places -/

/-- RESERVED reply places: those tied to an entry (R143, log entry 18). -/
def Responder.reserved (r : Responder) : Nat :=
  (r.work.filter (·.place)).length + (r.answering.filter (·.place)).length

/-- EMPTY reply places (R143). -/
def Responder.freeReplies (r : Responder) : Nat := Config.replyPlaces - (r.replies.length + r.reserved)

/-- Whether a SELF request still waits for its result: a posted write was completed at its taking (R166). -/
def WorkEntry.awaits (e : WorkEntry) : Bool := e.origin == .self && e.kind != .writePosted

/-- RESERVED completion places: those tied to a table entry or to a SELF request (R164, log entry 18). -/
def State.reservedCompletions (s : State) : Nat :=
  s.originator.length + (s.responder.work.filter WorkEntry.awaits).length +
    (s.responder.answering.filter (·.origin == .self)).length

/-- EMPTY completion places (R164). -/
def State.freeCompletions (s : State) : Nat :=
  Config.completionPlaces - (s.port.completions.length + s.reservedCompletions)

/-- A completion place is filled (R164). -/
def State.complete (ref : Nat) (status : BitVec 8) (body : List Word) (s : State) : State :=
  { s with port := { s.port with completions := s.port.completions ++ [{ ref, status, body }] } }

/-- The completion of a request given up (R170, R171). -/
def abandonedCompletion (ref : Nat) : Completion := { ref, status := statusByte .abandoned, body := [] }

/-- Every entry of the Originator table completes ABANDONED and the table is empty (R170, R171). -/
def State.abandonAll (s : State) : State :=
  { s with
    port := { s.port with completions := s.port.completions ++ s.originator.map fun e => abandonedCompletion e.ref }
    originator := [] }

/-! ### The claim -/

/-- The source of a SELF request: the node's own ID, or SELF while it holds none (R151). -/
def State.selfSource (s : State) : Source :=
  match s.tracker.nodeId with
  | some id => .node id
  | none => .self

/-- The claim check (R151): the claim is FREE, or the source is the claim holder. -/
def State.claimPasses (src : Source) (s : State) : Bool :=
  match s.responder.claim.holder with
  | none => true
  | some h => src == .node h

/-! ### Ring restart (R19, R22, R25) -/

/-- What a ring restart does to a context (R92). -/
def holdContext (c : Context) : Context :=
  match c.state with
  | .running =>
    if c.config.direction = .insertSide then { c with state := .held, resume := .running, cellsSent := 0 }
    else { c with state := .held, resume := .running, assembly := none, seq := none, resync := true }
  | .draining => { c with state := .held, resume := .draining, cellsSent := 0 }
  | _ => c

/-- The release marks that a ring restart leaves: a NODE_RESET is still to be performed, a RESTART_RING is dropped
(R150). -/
def survivingMarks (rs : List Reply) : List Release := (rs.filterMap (·.mark)).filter (· == .nodeReset)

/-- Steps 1 and 2 of R157, and its work-queue entries due at once (step 3). -/
def Responder.restart (r : Responder) : Responder :=
  { r with
    claim := {}
    replies := []
    work := r.work.map fun e => { e with place := false }
    answering := r.answering.map fun e => { e with place := false }
    applyDue := r.work.length
    releases := r.releases ++ survivingMarks r.replies }

/-- The round in hand is given up; a structure whose words are still coming in behind its marker is none of it.  Its words are
kept, and its last word acts in the state that the node is in by then, though a node that was ISOLATED or UNNUMBERED has sent
its first symbols on already (DESIGN CHOICE, log entry 47). -/
def RxRound.giveUp (r : RxRound) : RxRound :=
  if r.collect = .round then {} else { collect := r.collect, buf := r.buf }

/-- A ring restart is handed to the Plan Store (whose handling is then due, R55), the Stream Contexts (R92), the
Responder (R157), the Originator (R170) and the Event unit, which keeps all it holds (R179).  The round in hand is given
up and the carry store is empty (R13, R19, R136).  The table's entries complete before any SELF result of the work queue,
an order that the spec leaves open (log entry 21). -/
def State.handRestart (s : State) : State :=
  State.abandonAll
    { s with
      rx := s.rx.giveUp
      tx := {}
      carry := {}
      plan := { s.plan with restartDue := true }
      contexts := s.contexts.map holdContext
      responder := s.responder.restart }

/-- The Plan Store's handling of a ring restart (R55). -/
def State.planRestart (s : State) : State :=
  let t := { s with plan := { s.plan with restartDue := false, commitDue := false, commit := .none, roundPlan := none } }
  if s.plan.commit = .none then t else t.raise .commitCancelled

/-- Beginning an attempt (R25): phase CLAIMING, no node ID, role MEMBER, the timer at 0; a node of rank 1 to 3 sends its
CLAIM.  The other blocks are handed nothing, so a control claim that the node holds under its old ID stays (log entry 45). -/
def State.beginAttempt (s : State) : State :=
  let t := { s with
    tracker := { s.tracker with phase := .claiming, nodeId := none, role := .member, enumTimer := 0 } }
  if s.tracker.rank = 0 then t else t.emit (buildClaim s.tracker.rank s.tracker.serial)

/-- Entering ENUMERATING (R25).  Coming from ISOLATED sets the failed-attempt count to 0. -/
def State.enterEnumerating (s : State) : State :=
  let t := { s with
    tracker := { s.tracker with
      tracking := .enumerating, nodeId := none, role := .member, missed := 0, seekTimer := 0, retryTimer := 0
      failed := if s.tracker.tracking = Tracking.isolated then 0 else s.tracker.failed } }
  (t.raise .ringRestarted).handRestart.beginAttempt

/-- Sending a RESTART marker of the node's own, which counts RESTART_ORIGINATED (R22, R24). -/
def State.sendRestart (s : State) : State :=
  (s.emit (buildRestart s.tracker.serial)).count .restartOriginated

/-- Originating a ring restart (R24). -/
def State.originateRestart (s : State) : State :=
  if s.tracker.tracking = .enumerating then s.sendRestart.beginAttempt else s.sendRestart.enterEnumerating

/-- Entering DOWN because the input link left UP (R22).  Only from IN_ROUND is this a ring restart for the other
blocks; from ENUMERATING a claim held under the ID that is lost stays held (DESIGN CHOICE, log entry 45). -/
def State.leaveUp (s : State) : State :=
  let t := { s.sendRestart with
    rx := {}
    tracker := { s.tracker with
      tracking := .down, nodeId := none, role := .member, missed := 0, phase := .none
      enumTimer := 0, seekTimer := 0, retryTimer := 0, failed := 0 } }
  if s.inRound then (t.raise .ringRestarted).handRestart else t

/-- A released RESTART_RING (R27). -/
def State.restartReleased (s : State) : State :=
  if s.tracker.tracking = .down then s else s.originateRestart

/-- Round loss, at a member (R10) and at the master (R17). -/
def State.roundLoss (s : State) : State := (s.raise .roundLost).originateRestart

/-! ### Resets -/

/-- The Drop Queue after a soft reset: a record in transfer is kept (R116). -/
def DropQueue.softReset (q : DropQueue) : DropQueue :=
  if q.inTransfer then { records := q.records.take 1, inTransfer := true } else {}

/-- The round plan after a soft reset: PASS in every slot for the rest of the round (R43). -/
def RoundPlan.allPass (p : RoundPlan) : RoundPlan :=
  { quiet := false, actions := List.replicate p.actions.length .pass }

/-- The SELF requests that a soft reset wipes: they complete ABANDONED (R158). -/
def State.wipedSelf (s : State) : List WorkEntry :=
  s.responder.work.filter WorkEntry.awaits ++ s.responder.answering.filter (·.origin == .self)

/-- The soft reset that a released NODE_RESET performs (R158, block by block R18, R56, R96, R97, R116, R136, R137, R171,
R180).  Trunk ports, Round Tracker and carry store are kept, and with
them an event that the Round Tracker has still to raise (log entry 32). -/
def State.softReset (s : State) : State :=
  let t := s.abandonAll
  { t with
    plan := { roundPlan := s.plan.roundPlan.map RoundPlan.allPass }
    contexts := Vector.replicate 16 {}
    filters := Vector.replicate 8 {}
    drop := s.drop.softReset
    responder := {}
    config := {}
    port := { t.port with
      completions := t.port.completions ++ s.wipedSelf.map fun e => abandonedCompletion e.tag
      notice := none }
    events := { upDue := s.events.upDue, lateDue := s.events.lateDue }
    counters := Vector.replicate 32 0 }

/-- While RESET# is asserted the part is held at its hard-reset values: what arrives has no effect (R2, R56, log entry
10). -/
def State.unlessReset (f : State → State) (s : State) : State := if s.resetAsserted then s else f s

/-- Hard reset (R1, R2, R4, R13, R20, R37, R74, R97, R104, R110, R117, R127, R137, R172, R173): every block at its
hard-reset value, the rank as strapped (R21).  The serial is the part's own; what has been sent, the queue of commands
and the model's own counters of free choices are no state of a block. -/
def State.hardReset (mrank : BitVec 2) (s : State) : State :=
  { State.reset with
    tracker := { State.reset.tracker with rank := mrank, serial := s.tracker.serial }
    port := { lane := s.port.lane }
    line := s.line
    choice := s.choice
    unknowns := s.unknowns
    pending := s.pending }

end Sys2Proof.Machine
end

