-- ==== Sys2Proof/Machine/Contexts.lean ====
section
/-!
DEFINITION. Stream contexts (chapter 5), record filters (chapter 6), and the two stores that meet the local equipment
(chapter 7): receiving a stream, sending a stream, the context commands, the offers to the Drop Queue.
-/

namespace Sys2Proof.Machine

open Sys2Proof

/-! ### The filter decision (R98, R99) -/

/-- A unit matches the test bytes: they agree with the pattern in every bit of the mask (R98). -/
def FilterUnit.matches (u : FilterUnit) (test : Word) : Bool := ((test ^^^ u.pattern) &&& u.mask) == 0

def Combine.decide (m : Combine) (a b : Bool) : Bool :=
  match m with
  | .any => a || b
  | .all => a && b
  | .none => !(a || b)
  | .notAll => !(a && b)

/-- The decision on a record: true accepts it (R99). -/
def CtxConfig.accepts (c : CtxConfig) (fs : Vector FilterUnit 8) (test : Word) : Bool :=
  match c.filterA, c.filterB with
  | some a, some b => c.combine.decide (fs[a].matches test) (fs[b].matches test)
  | some a, none => fs[a].matches test
  | none, some b => fs[b].matches test
  | none, none => true

/-! ### Receiving (5.3) -/

/-- To resynchronise: the record in assembly is discarded and resync pending is set (R81). -/
def Context.resynchronise (c : Context) : Context := { c with assembly := none, resync := true }

/-- A fill as a WHOLE or END cell's length reads it: outside 1..24 it is read as 24 (R84). -/
def effectiveFill (f : Nat) : Nat := if 1 ≤ f && f ≤ 24 then f else 24

/-- The comparison of the sequence number and the new expectation (R83). -/
def Context.sequence (c : Context) (seq : BitVec 3) : Context :=
  let d := match c.seq with
    | none => c
    | some e => if e = seq then c else (c.count .seqGap).resynchronise
  { d with seq := some (seq + 1) }

/-- What a delivery leaves: the context, the answer (true is TAKE, false PASS_THROUGH), and the record to be offered to
the Drop Queue, if the cell completed an accepted one. -/
abbrev Delivered := Context × Bool × Option Assembly

/-- A START or WHOLE cell begins a record (R84). -/
def Context.beginRecord (c : Context) (fs : Vector FilterUnit 8) (n : RoundNo) (tap : Bool) (cell : RxCell) : Delivered :=
  let d := match c.assembly with
    | none => c
    | some _ => (c.count .seqGap).resynchronise
  let accepted := d.config.accepts fs (cellTestBytes cell)
  let r : Assembly :=
    { cells := 1, payload := if accepted then cellBytes cell else [], rejected := !accepted, tapped := tap, firstRound := n, age := 0 }
  let d := if accepted then d else d.count .filterReject
  if cellBoundary cell = 3 then
    ({ d with assembly := none }, accepted,
      if accepted then some { r with payload := r.payload.take (effectiveFill (cellFill cell)) } else none)
  else ({ d with assembly := some r }, accepted, none)

/-- A MIDDLE or END cell continues the record in assembly, or is ignored (R85, R86). -/
def Context.continueRecord (c : Context) (tap : Bool) (cell : RxCell) : Delivered :=
  match c.assembly with
  | none => (c, true, none)
  | some r =>
    if Config.recordCells ≤ r.cells then ((c.count .tooLong).resynchronise, true, none)
    else if cellBoundary cell = 1 then
      ({ c with assembly := some { r with
          cells := r.cells + 1
          payload := if r.rejected then [] else r.payload ++ cellBytes cell
          tapped := r.tapped || tap } }, !r.rejected, none)
    else if r.rejected then ({ c with assembly := none }, false, none)
    else
      ({ c with assembly := none }, true,
        some { r with
          cells := r.cells + 1
          payload := r.payload ++ (cellBytes cell).take (effectiveFill (cellFill cell))
          tapped := r.tapped || tap })

/-- The boundary is START or WHOLE. -/
def beginsRecord (cell : RxCell) : Bool := cellBoundary cell == 0 || cellBoundary cell == 3

/-- A delivery to a drop-side context that is ARMED (R82) or RUNNING (R83 to R86). -/
def Context.receive (c : Context) (fs : Vector FilterUnit 8) (n : RoundNo) (tap : Bool) (cell : RxCell) : Delivered :=
  let c := c.count .cells
  if c.state = .armed then
    let d := { c with seq := some (cellSeq cell + 1) }
    if beginsRecord cell then ({ d with state := .running } : Context).beginRecord fs n tap cell else (d, true, none)
  else
    let d := c.sequence (cellSeq cell)
    if beginsRecord cell then d.beginRecord fs n tap cell else d.continueRecord tap cell

/-- A check failure at a drop-side context (R88). -/
def Context.checkFailure (c : Context) : Context :=
  if c.state = .armed then { c with seq := none } else { c.resynchronise with seq := none }

/-! ### The Drop Queue (7.1) -/

/-- The Drop Queue has room for the record: bytes and records (R105). -/
def DropQueue.fits (q : DropQueue) (r : DropRec) : Bool :=
  dropCharge r ≤ Config.dropBytes - dropOccupancy q && q.records.length < Config.dropRecords

/-- The drop record that context c offers (R87). -/
def dropRecordOf (i : Fin 16) (c : Context) (a : Assembly) : DropRec :=
  { ctx := i, tag := c.config.tag, cells := a.cells, firstRound := a.firstRound, tapped := a.tapped, resync := c.resync, payload := a.payload }

/-- A completed accepted record is offered to the Drop Queue at its slot event (R87, R105, R106). -/
def State.offer (i : Fin 16) (a : Assembly) (s : State) : State :=
  let r := dropRecordOf i s.contexts[i] a
  if s.drop.fits r then
    let q := { s.drop with records := s.drop.records ++ [r] }
    let t := ({ s with drop := q }).mapCtx i fun c => { c.count .records with resync := false }
    if dropOccupancy s.drop ≤ s.config.threshold && s.config.threshold < dropOccupancy q then t.raise .dropQueueThreshold else t
  else
    (s.mapCtx i fun c => { c.count .queueFullDiscard with resync := true }).raise .dropQueueFull

/-- FLUSH_DROP_QUEUE at its application (R109): every record not in transfer is removed. -/
def State.flushDropQueue (s : State) : Status × List Word × State :=
  let kept := if s.drop.inTransfer then s.drop.records.take 1 else []
  let q := { s.drop with records := kept }
  let removed := s.drop.records.length - kept.length
  (.ok, [field 31 24 removed ||| field 15 0 (dropOccupancy s.drop - dropOccupancy q)],
    ({ s with drop := q }).countN .dropRecordsFlushed removed)

/-! ### Sending (5.4) -/

/-- The context has a cell: RUNNING or DRAINING, and its head record has a cell not yet sent (R68). -/
def Context.hasCell (c : Context) : Bool :=
  (c.state == .running || c.state == .draining) &&
    match c.queue with
    | [] => false
    | r :: _ => c.cellsSent < recordCells r

/-- The boundary of cell i of C cells (R70). -/
def insertBoundary (i n : Nat) : Nat := if n = 1 then 3 else if i = 0 then 0 else if i + 1 = n then 2 else 1

/-- The fill of cell i of a record of B bytes: 24, but on the last cell what is left (R70). -/
def insertFill (i : Nat) (r : InsertRec) : Nat :=
  if i + 1 = recordCells r then r.payload.length - 24 * (recordCells r - 1) else 24

/-- The next cell of an insert-side context (R70). -/
def Context.nextCell (c : Context) : RxCell :=
  match c.queue with
  | [] => idleCell
  | r :: _ =>
    buildCell c.config.tag.toNat (c.seq.getD 0) (insertBoundary c.cellsSent (recordCells r)) (insertFill c.cellsSent r)
      ((r.payload.drop (24 * c.cellsSent)).take 24)

/-- What an insert-side context does when its cell has been sent (R90): with the record's last cell the record leaves the
queue, which frees its charge. -/
def Context.cellSent (c : Context) : Context :=
  let d := { c.count .cells with inFlight := true, seq := some (c.seq.getD 0 + 1), cellsSent := c.cellsSent + 1 }
  match c.queue with
  | [] => d
  | r :: rest =>
    if c.cellsSent + 1 = recordCells r then { d.count .records with inFlight := false, cellsSent := 0, queue := rest } else d

/-- The end of a drain (R91): the context is DRAINING and its in-flight record has been sent. -/
def Context.drained (c : Context) : Bool := c.state == .draining && !c.inFlight

/-- INSERT_DRAINED (R91). -/
def State.endDrain (i : Fin 16) (s : State) : State :=
  (s.mapCtx i fun c => { c with state := .idle, queue := [], cellsSent := 0 }).raise .insertDrained

/-! ### Round starts (R89, R93) -/

/-- The record in assembly of a RUNNING drop-side context ages by one round start (R89). -/
def Context.ageRecord (c : Context) : Context :=
  if c.state = .running && c.config.direction = .dropSide then
    { c with assembly := c.assembly.map fun a => { a with age := min Config.staleLimit (a.age + 1) } }
  else c

/-- The record in assembly has reached the age limit (R89). -/
def Context.isStale (c : Context) : Bool :=
  c.state == .running && c.config.direction == .dropSide &&
    match c.assembly with
    | none => false
    | some a => Config.staleLimit ≤ a.age

/-- STALE_ASSEMBLY (R89). -/
def State.endStale (i : Fin 16) (s : State) : State :=
  (s.mapCtx i fun c => (c.count .stale).resynchronise).raise .staleAssembly

/-- A HELD context returns to its resume state (R93). -/
def Context.resumed (c : Context) : Context :=
  if c.state = .held then
    match c.resume with
    | .none => c
    | .running => { c with state := .running, resume := .none }
    | .draining => { c with state := .draining, resume := .none }
  else c

/-- A HELD context with a resume state. -/
def Context.canResume (c : Context) : Bool := c.state == .held && c.resume != .none

/-- CONTEXT_RESUME (R93). -/
def State.resumeAll (s : State) : State := { s with contexts := s.contexts.map Context.resumed }

/-! ### The context commands (5.2) -/

/-- START_CONTEXT (R77). -/
def Context.start (c : Context) : Status × Context :=
  if c.state ≠ .idle then (.wrongState, c)
  else if !(1 ≤ c.config.tag.toNat && c.config.tag.toNat ≤ 120) then (.badConfig, c)
  else
    match c.config.direction with
    | .dropSide => (.ok, { c with state := .armed, seq := none, assembly := none, resync := false })
    | .insertSide => (.ok, { c with state := .armed, seq := some 0, cellsSent := 0, inFlight := false })
    | _ => (.badConfig, c)

/-- The end of a drop-side context's service (R78, R80). -/
def Context.endDrop (c : Context) : Context :=
  { c with state := .idle, resume := .none, assembly := none, seq := none, resync := false }

/-- The end of an insert-side context's service with its queue discarded (R79, R80). -/
def Context.endInsert (c : Context) : Context :=
  { c with state := .idle, resume := .none, queue := [], cellsSent := 0, inFlight := false }

/-- STOP_CONTEXT (R78, R79).  A context of unassigned direction is IDLE and holds nothing; it is stopped like a drop-side
one (log entry 35). -/
def Context.stop (c : Context) : Context :=
  if c.config.direction = .insertSide then
    if c.inFlight then
      match c.state with
      | .running => { c with state := .draining }
      | .held => { c with resume := .draining }
      | _ => c
    else c.endInsert
  else c.endDrop

/-- HALT_CONTEXT (R80).  A context of unassigned direction is halted like a drop-side one (log entry 35). -/
def Context.halt (c : Context) : Context :=
  if c.config.direction = .insertSide then c.endInsert else c.endDrop

/-- The reply body of an OK reply: the state after the command and its resume state (R76, 12.1). -/
def contextBody (c : Context) : List Word := [field 31 29 (ctxStateCode c.state) ||| field 28 27 (resumeCode c.resume)]

/-- A context command at its application: a number above 15 is OUT_OF_RANGE (R76). -/
def State.contextCommand (n : Nat) (f : Context → Status × Context) (s : State) : Status × List Word × State :=
  if 15 < n then (.outOfRange, [], s)
  else
    let i := ctxOf n
    let (st, c) := f s.contexts[i]
    if st = .ok then (.ok, contextBody c, s.mapCtx i fun _ => c) else (st, [], s)

/-- A configuration write (R75, R100).  A change of direction discards the queued records. -/
def Context.writeConfig (c : Context) (w : Word) : Status × Context :=
  match ctxConfigOf w with
  | none =>
    (if c.state ≠ .idle && Config.contextWriteChecksStateFirst then .wrongState else .badRequest, c)
  | some g =>
    if c.state ≠ .idle then (.wrongState, c)
    else (.ok, { c with config := g, queue := if g.direction = c.config.direction then c.queue else [] })

/-! ### The Insert Pool (7.3) -/

/-- The tests of an INSERT_RECORD frame, in their order (R111). -/
def State.insertTest (f : List Half) (s : State) : Status :=
  if 15 < giveContext f then .badRequest
  else if !(1 ≤ giveLength f && giveLength f ≤ 384) || frameOdd f || (frameBody f).length != (giveLength f + 3) / 4 then .badLength
  else
    let c := s.contexts[ctxOf (giveContext f)]
    if c.config.direction ≠ .insertSide then .notInsertSide
    else if c.state = .draining then .wrongState
    else if Config.queueRecords ≤ c.queue.length then .queueFull
    else if Config.poolBytes - s.poolOccupancy < insertCharge { payload := recordBytes f } then .poolFull
    else .ok

/-- An INSERT_RECORD frame decided: accepted into its queue (R112), or refused and counted (R111). -/
def State.insertOffer (f : List Half) (s : State) : Status × State :=
  let st := s.insertTest f
  if st = .ok then
    (.ok, s.mapCtx (ctxOf (giveContext f)) fun c => { c with queue := c.queue ++ [{ payload := recordBytes f }] })
  else (st, s.count .insertOffersRefused)

end Sys2Proof.Machine
end

