-- ==== Sys2Proof/Machine/PlanStore.lean ====
section
/-!
DEFINITION. The Plan Store (chapter 3): the rotation and the round plan, the edit list, the pending commit.
-/

namespace Sys2Proof.Machine

open Sys2Proof

/-- A target is ahead of the current round when (target - current) mod 65536 lies in 1..32767 (R50). -/
def ahead (target current : RoundNo) : Bool := 1 ≤ (target - current).toNat && (target - current).toNat ≤ 32767

/-- The pending commit is due at the round start of round n (R51).  A NEXT_START commit that is pending when a round
start begins was taken at an earlier one. -/
def PendingCommit.due (c : PendingCommit) (n : RoundNo) : Bool :=
  match c with
  | .none => false
  | .atTarget t => !ahead t n
  | .nextStart _ => true

/-- The resolution of a slot entry: FOLLOW takes the default of its own bank (R39). -/
def Bank.resolve (b : Bank) (e : PlanEntry) : PlanEntry := if e = .follow then b.dflt else e

/-- The step of round n: step n mod L (R41). -/
def Rotation.step (r : Rotation) (n : RoundNo) : RotationStep := r.steps[Fin.ofNat 12 (n.toNat % r.length)]

/-- The round plan of round n (R42): the slots 0 to SLOT_COUNT - 1 of the bank that the step names, FOLLOW resolved;
in a QUIET round PASS in every slot (R44). -/
def PlanStore.build (p : PlanStore) (n : RoundNo) (slotCount : Nat) : RoundPlan :=
  match p.rotation.step n with
  | .a => { quiet := false, actions := (p.bankA.slots.toList.take slotCount).map p.bankA.resolve }
  | .b => { quiet := false, actions := (p.bankB.slots.toList.take slotCount).map p.bankB.resolve }
  | .quiet => { quiet := true, actions := List.replicate slotCount .pass }

/-- The Plan Store's part of a round start (R42): whether the pending commit is due now, and the round plan of the live
tables.  A due commit builds the round plan again when it is applied (R51). -/
def State.planStart (s : State) : State :=
  { s with plan := { s.plan with
      commitDue := s.plan.commit.due s.tracker.round
      roundPlan := some (s.plan.build s.tracker.round s.tracker.params.slotCount) } }

/-- One edit written to its target in the live tables (R51). -/
def PlanStore.applyEdit (p : PlanStore) : Edit → PlanStore
  | .slot .a k e => { p with bankA := { p.bankA with slots := p.bankA.slots.set k e } }
  | .slot .b k e => { p with bankB := { p.bankB with slots := p.bankB.slots.set k e } }
  | .bankDefault .a e => { p with bankA := { p.bankA with dflt := e } }
  | .bankDefault .b e => { p with bankB := { p.bankB with dflt := e } }
  | .rotation r => { p with rotation := r }

/-- The live tables after every edit of the list, in list order, with the list and the pending commit emptied (R51). -/
def PlanStore.committed (p : PlanStore) : PlanStore :=
  { p.edits.foldl PlanStore.applyEdit p with edits := [], commit := .none, commitDue := false }

/-- An AT_TARGET commit whose target the round has passed (R52). -/
def PendingCommit.passed (c : PendingCommit) (n : RoundNo) : Bool :=
  match c with
  | .atTarget t => t != n
  | _ => false

/-- The application of the due commit (R51, R52), and the round plan built from the committed tables (R42). -/
def State.applyCommit (s : State) : State :=
  let n := s.tracker.round
  let p := s.plan.committed
  let t := { s with plan := { p with roundPlan := some (p.build n s.tracker.params.slotCount) } }
  let t := if s.plan.commit.passed n then t.count .commitPassed else t
  t.raise .commitApplied

/-! ### Edits (3.5) -/

def Edit.target : Edit → EditTarget
  | .slot bk k _ => .slot bk k
  | .bankDefault bk _ => .bankDefault bk
  | .rotation _ => .rotation

/-- An edit request (R47). -/
def PlanStore.takeEdit (p : PlanStore) (e : Edit) : Status × PlanStore :=
  if p.commit ≠ .none then (.commitPending, p)
  else if p.edits.any (fun x => x.target == e.target) then
    (.ok, { p with edits := p.edits.map fun x => if x.target = e.target then e else x })
  else if p.edits.length < Config.editLimit then (.ok, { p with edits := p.edits ++ [e] })
  else (.editFull, p)

/-- The edit that a word at an index of PLAN_A or PLAN_B makes; none where the word is refused BAD_REQUEST (R46). -/
def bankEdit (bk : BankId) (index : Nat) (w : Word) : Option Edit :=
  match planEntryOf w with
  | none => none
  | some e =>
    if h : index < 48 then some (.slot bk ⟨index, h⟩ e)
    else if e = .follow then none
    else some (.bankDefault bk e)

/-- A word of a write to PLAN_A (space 2), PLAN_B (3) or ROTATION (4): checked, then taken or refused (R46, R47). -/
def PlanStore.writeWord (p : PlanStore) (space index : Nat) (w : Word) : Status × PlanStore :=
  let e : Option Edit :=
    if space = 2 then bankEdit .a index w
    else if space = 3 then bankEdit .b index w
    else (rotationOf w).map Edit.rotation
  match e with
  | none => (.badRequest, p)
  | some e => p.takeEdit e

/-! ### The commit commands (3.6) -/

/-- The reply body of a taken COMMIT_PLAN: the round number n and the number of edits (R50, 12.1). -/
def commitBody (n : RoundNo) (edits : Nat) : List Word := [field 31 16 n.toNat ||| field 4 0 edits]

/-- COMMIT_PLAN at its application (R50). -/
def State.commitPlan (target : RoundNo) (s : State) : Status × List Word × State :=
  let n := s.tracker.round
  if !s.inRound then (.wrongState, [], s)
  else if s.plan.commit ≠ .none then (.commitPending, [], s)
  else if ahead target n then
    (.ok, commitBody n s.plan.edits.length, { s with plan := { s.plan with commit := .atTarget target } })
  else (.late, commitBody n s.plan.edits.length, { s with plan := { s.plan with commit := .nextStart target } })

/-- CANCEL_COMMIT at its application (R54).  A commit cancelled at the round start it is due at is not applied (R53). -/
def State.cancelCommit (s : State) : Status × List Word × State :=
  let t := ({ s with plan := { s.plan with commit := .none, commitDue := false } }).raise .commitCancelled
  match s.plan.commit with
  | .none => (.wrongState, [], s)
  | .atTarget r => (.ok, [field 15 0 r.toNat], t)
  | .nextStart r => (.ok, [field 15 0 r.toNat], t)

end Sys2Proof.Machine
end

