-- ==== Sys2Proof/Machine/Responder.lean ====
section
/-!
DEFINITION. The Responder (chapter 9): the spaces, the taking of requests, the answers given at arrival, the work queue,
the failure capture, the claim and the holder role.
-/

namespace Sys2Proof.Machine

open Sys2Proof

/-! ### The spaces (9.2, 12.3) -/

/-- How many indices a space has, none where there is no such space (R138). -/
def spaceSize : Nat → Option Nat
  | 0 => some 8
  | 1 => some 8
  | 2 => some 49
  | 3 => some 49
  | 4 => some 1
  | 5 => some 34
  | 6 => some 48
  | 7 => some 16
  | 8 => some 211
  | 9 => some 1
  | 10 => some 5
  | 11 => some 9
  | _ => none

def identityWord (i : Nat) (s : State) : Word :=
  match i with
  | 0 => serialLow s.tracker.serial
  | 1 => serialHigh s.tracker.serial
  | 2 => Config.partWord
  | 3 => s.tracker.rank.setWidth 32
  | 4 => BitVec.ofNat 32 (s.tracker.nodeId.getD 127)
  | 5 => BitVec.ofNat 32 s.tracker.params.nodeCount
  | 6 => s.tracker.epoch.setWidth 32
  | _ => field 2 0 (trackingCode s.tracker.tracking) ||| flag 4 s.isMaster

def configWord (i : Nat) (s : State) : Word :=
  match i with
  | 0 => targetWord s.config.target
  | 1 => s.config.enable.setWidth 32
  | 2 => s.config.groups.setWidth 32
  | 3 => BitVec.ofNat 32 s.config.threshold
  | 4 => BitVec.ofNat 32 s.config.timeout
  | 5 => BitVec.ofNat 32 (periodMicros s.config.period)
  | 6 => BitVec.ofNat 32 s.config.slotCount
  | _ => BitVec.ofNat 32 s.config.openCapacity

/-- A bank's word: the slot entries, then the default (R45). -/
def bankWord (b : Bank) (i : Nat) : Word := planEntryWord (if h : i < 48 then b.slots[i] else b.dflt)

def commitWord : PendingCommit → Word
  | .none => 0
  | .atTarget t => field 31 30 1 ||| field 15 0 t.toNat
  | .nextStart t => field 31 30 2 ||| field 15 0 t.toNat

def bankIdFlag : BankId → Word
  | .a => 0
  | .b => flag 29 true

def editTargetWord : EditTarget → Word
  | .slot bk k => field 31 30 1 ||| bankIdFlag bk ||| field 5 0 k.val
  | .bankDefault bk => field 31 30 2 ||| bankIdFlag bk
  | .rotation => field 31 30 3

def editValueWord : Edit → Word
  | .slot _ _ e => planEntryWord e
  | .bankDefault _ e => planEntryWord e
  | .rotation r => rotationWord r

/-- EDIT_LIST (R49). -/
def editListWord (i : Nat) (p : PlanStore) : Word :=
  match i with
  | 0 => commitWord p.commit
  | 1 => BitVec.ofNat 32 p.edits.length
  | k =>
    match p.edits[(k - 2) / 2]? with
    | none => 0
    | some e => if k % 2 = 0 then editTargetWord e.target else editValueWord e

def seqCode : Option (BitVec 3) → Nat
  | none => 8
  | some n => n.toNat

/-- State summary word one (R75). -/
def ctxSummary1 (c : Context) : Word :=
  field 31 29 (ctxStateCode c.state) ||| field 28 27 (resumeCode c.resume) ||| field 3 0 (seqCode c.seq)

/-- State summary word two (R75), by the context's side. -/
def ctxSummary2 (c : Context) : Word :=
  if c.config.direction = .insertSide then
    field 31 28 c.cellsSent ||| flag 27 c.inFlight ||| field 2 0 c.queue.length
  else
    match c.assembly with
    | none => flag 25 c.resync
    | some a => field 31 27 a.cells ||| flag 26 a.rejected ||| flag 25 c.resync

/-- CONTEXTS (R140). -/
def contextsWord (i : Nat) (s : State) : Word :=
  let c := s.contexts[ctxOf (i / 3)]
  if i % 3 = 0 then ctxConfigWord c.config else if i % 3 = 1 then ctxSummary1 c else ctxSummary2 c

/-- FILTERS (R102). -/
def filtersWord (i : Nat) (s : State) : Word :=
  let u := s.filters[Fin.ofNat 8 (i / 2)]
  if i % 2 = 0 then u.pattern else u.mask

/-- COUNTERS (R118, R140). -/
def countersWord (i : Nat) (s : State) : Word :=
  if h : i < 32 then s.counters[i].setWidth 32
  else if i = 32 then BitVec.ofNat 32 s.drop.records.length
  else if i = 33 then BitVec.ofNat 32 (dropOccupancy s.drop)
  else if i = 34 then BitVec.ofNat 32 s.poolOccupancy
  else (s.contexts[ctxOf ((i - 35) / 11)].counters[Fin.ofNat 11 ((i - 35) % 11)]).setWidth 32

def captureWord (i : Nat) (c : Option Capture) : Word :=
  match c with
  | none => 0
  | some c =>
    match i with
    | 4 => BitVec.ofNat 32 c.code ||| flag 8 c.isCommand
    | 5 => BitVec.ofNat 32 c.index
    | 6 => BitVec.ofNat 32 (sourceCode c.source)
    | 7 => BitVec.ofNat 32 c.tag
    | _ => BitVec.ofNat 32 (statusCode c.reason)

/-- CLAIM_AND_CAPTURE (R140). -/
def claimWord (i : Nat) (r : Responder) : Word :=
  match i with
  | 0 => BitVec.ofNat 32 (r.claim.holder.getD 127)
  | 1 => BitVec.ofNat 32 r.claim.lease
  | 2 => flag 0 r.holder
  | 3 => flag 0 r.capture.isSome ||| flag 1 r.overrun
  | _ => captureWord i r.capture

/-- The word that a READ returns (R138 to R140). -/
def State.readWord (space i : Nat) (s : State) : Word :=
  match space with
  | 0 => identityWord i s
  | 1 => configWord i s
  | 2 => bankWord s.plan.bankA i
  | 3 => bankWord s.plan.bankB i
  | 4 => rotationWord s.plan.rotation
  | 5 => editListWord i s.plan
  | 6 => contextsWord i s
  | 7 => filtersWord i s
  | 8 => countersWord i s
  | 9 => s.events.pending.setWidth 32
  | 10 => s.responder.alloc[Fin.ofNat 5 i]
  | _ => claimWord i s.responder

/-! ### The failure capture (R146) -/

/-- The first body word of a request; of a request with no body, a free value (log entry 28). -/
def captureHead (body : List Word) : Word := body.headD Config.emptyBodyWord

/-- A failure is recorded: the capture is filled, or OVERRUN set, and WRITE_FAILED raised (R146). -/
def State.recordFailure (e : WorkEntry) (index : Nat) (reason : Status) (s : State) : State :=
  let c : Capture :=
    { isCommand := e.kind = .command
      code := bits (captureHead e.body) 31 24
      index := if e.kind = .command then 0 else index
      source := e.source
      tag := e.tag
      reason := reason }
  let r := match s.responder.capture with
    | none => { s.responder with capture := some c }
    | some _ => { s.responder with overrun := true }
  ({ s with responder := r }).raise .writeFailed

/-! ### Taking (9.3) -/

/-- The outcome a request will have, found at its arrival (R141). -/
inductive Found where
  | answer
  | refuse (st : Status)
  | enqueue
  deriving DecidableEq, Repr

/-- CLAIM, RENEW and RELEASE. -/
def isClaimCommand (code : Nat) : Bool := code == 1 || code == 2 || code == 3

/-- The table of R141, first row that fits. -/
def State.classify (e : WorkEntry) (s : State) : Found :=
  if !bodyFits e.kind e.body then .refuse .badRequest
  else
    match e.kind with
    | .read => .answer
    | .swap => .answer
    | .command =>
      if isClaimCommand (reqCommand e.body) then .answer
      else if reqCommand e.body = 0 || 15 < reqCommand e.body then .refuse .badRequest
      else if s.claimPasses e.source then .enqueue else .refuse .notOwner
    | _ => if s.claimPasses e.source then .enqueue else .refuse .notOwner

/-- A reply place is filled (R143).  The result of a SELF request goes to the Originator, which completes it (R166); a
group write or command has no reply. -/
def State.fillReply (e : WorkEntry) (st : Status) (body : List Word) (mark : Option Release) (s : State) : State :=
  match e.origin with
  | .unicast =>
    match e.source with
    | .node id => { s with responder := { s.responder with replies := s.responder.replies ++ [{ dest := id, tag := e.tag, status := st, body, mark }] } }
    | .self => s
  | .self => s.complete e.tag (statusByte st) body
  | .group => s

/-- A request joins the work queue (R144).  While the node is not IN_ROUND an entry is due at once on its taking. -/
def State.enqueue (e : WorkEntry) (s : State) : State :=
  let r := s.responder
  { s with responder := { r with work := r.work ++ [e], applyDue := if s.inRound then r.applyDue else r.work.length + 1 } }

/-- A unicast request, or one from SELF, is taken when every place it needs is free; none where it cannot be taken
(R141).  The reply of a request refused for its body length has an empty body, whatever its kind (log entry 38). -/
def State.take (e : WorkEntry) (s : State) : Option State :=
  let room := 0 < s.responder.freeReplies
  match s.classify e with
  | .answer =>
    if room then some { s with responder := { s.responder with answering := s.responder.answering ++ [{ e with place := true }] } }
    else none
  | .refuse st => if room then some (s.fillReply e st [] none) else none
  | .enqueue =>
    if room && s.responder.work.length < Config.workLimit then
      if e.kind = .writePosted then some ((s.fillReply e .writeAccepted [] none).enqueue { e with place := false })
      else some (s.enqueue { e with place := true })
    else none

/-- A group or broadcast write or command at a member (R129, R147). -/
def State.takeGroup (e : WorkEntry) (s : State) : State :=
  match s.classify e with
  | .answer => { s with responder := { s.responder with answering := s.responder.answering ++ [{ e with place := false }] } }
  | .refuse st => s.recordFailure e (reqIndex [captureHead e.body]) st
  | .enqueue =>
    if s.responder.work.length < Config.workLimit then s.enqueue { e with place := false }
    else (s.count .groupMissed).recordFailure e (reqIndex [captureHead e.body]) .groupMissed

/-! ### Answers given at arrival -/

/-- The answer to a READ (R142). -/
def State.answerRead (body : List Word) (s : State) : Status × List Word :=
  match spaceSize (reqSpace body) with
  | none => (.noSuchSpace, [])
  | some size =>
    if !(1 ≤ reqCount body && reqCount body ≤ 10) then (.badRequest, [])
    else if size < reqIndex body + reqCount body then (.outOfRange, [])
    else (.ok, (List.range (reqCount body)).map fun k => s.readWord (reqSpace body) (reqIndex body + k))

/-- A new value that an allocation word may take (R156).  SLOT_BUDGET's value is read whole, as the compare value is (log
entry 37). -/
def swapValid (i : Nat) (new : Word) (slotCount : Nat) : Bool :=
  match i with
  | 0 => new.toNat ≤ slotCount
  | 1 => !bit new 0
  | 4 => bits new 31 25 == 0
  | _ => true

/-- The answer to a SWAP (R156). -/
def State.answerSwap (body : List Word) (s : State) : Status × List Word × State :=
  let i := bits (bodyWord body 0) 2 0
  if h : i < 5 then
    if !s.responder.holder then (.notHolder, [], s)
    else
      let old := s.responder.alloc[i]
      if !swapValid i (bodyWord body 2) s.tracker.params.slotCount then (.badRequest, [old], s)
      else if old = bodyWord body 1 then
        (.ok, [old], { s with responder := { s.responder with alloc := s.responder.alloc.set i (bodyWord body 2) } })
      else (.compareFailed, [old], s)
  else (.outOfRange, [], s)

/-- The reply body of the claim commands: the claim holder, 127 for FREE, and the lease remaining (R152, 12.1). -/
def claimBody (c : ClaimRecord) : List Word := [field 31 24 (c.holder.getD 127) ||| field 15 0 c.lease]

/-- A requested lease clipped into 16..4096 (R152). -/
def clipLease (l : Nat) : Nat := max Config.leaseMin (min Config.leaseMax l)

/-- CLAIM (R152). -/
def ClaimRecord.claim (src : Source) (lease : Nat) (c : ClaimRecord) : Status × ClaimRecord :=
  match src with
  | .self => (.wrongState, c)
  | .node id =>
    match c.holder with
    | none => (.ok, { holder := some id, lease := clipLease lease })
    | some h => if h = id then (.ok, { holder := some h, lease := clipLease lease }) else (.notOwner, c)

/-- RENEW (R152). -/
def ClaimRecord.renew (src : Source) (lease : Nat) (c : ClaimRecord) : Status × ClaimRecord :=
  match c.holder with
  | none => (.wrongState, c)
  | some h => if src = .node h then (.ok, { holder := some h, lease := clipLease lease }) else (.notOwner, c)

/-- RELEASE (R152). -/
def ClaimRecord.release (src : Source) (c : ClaimRecord) : Status × ClaimRecord :=
  match c.holder with
  | none => (.wrongState, c)
  | some h => if src = .node h then (.ok, {}) else (.notOwner, c)

/-- A claim command's answer over the state, with the reply body of R152. -/
def State.answerClaim (f : ClaimRecord → Status × ClaimRecord) (s : State) : Status × List Word × State :=
  let (st, c) := f s.responder.claim
  (st, claimBody c, { s with responder := { s.responder with claim := c } })

/-- The rows that answer a request at its arrival. -/
inductive AnswerRow where
  | reqRead
  | reqSwap
  | claim
  | renew
  | release
  deriving DecidableEq, Repr

/-- The row that answers a request taken. -/
def WorkEntry.answerRow (e : WorkEntry) : AnswerRow :=
  match e.kind with
  | .read => .reqRead
  | .swap => .reqSwap
  | _ => if reqCommand e.body = 1 then .claim else if reqCommand e.body = 2 then .renew else .release

/-- The outcome that a row gives a request (R142, R152, R156). -/
def State.answerBy (row : AnswerRow) (e : WorkEntry) (s : State) : Status × List Word × State :=
  match row with
  | .reqRead => let (st, body) := s.answerRead e.body; (st, body, s)
  | .reqSwap => s.answerSwap e.body
  | .claim => s.answerClaim (ClaimRecord.claim e.source (reqOperand e.body))
  | .renew => s.answerClaim (ClaimRecord.renew e.source (reqOperand e.body))
  | .release => s.answerClaim (ClaimRecord.release e.source)

/-- A request that waits for its answer is answered by its row: its place is filled, or, of a group claim command, a
refusal recorded (R143, R147). -/
def State.answerHead (row : AnswerRow) (s : State) : State :=
  match s.responder.answering with
  | [] => s
  | e :: rest =>
    if e.answerRow = row then
      let (st, body, t) := ({ s with responder := { s.responder with answering := rest } }).answerBy row e
      if e.origin = .group then (if isRefusal st then t.recordFailure e 0 st else t)
      else if e.origin = .unicast && !e.place then t
      else t.fillReply e st body none
    else s

/-- The request that has waited longest is answered. -/
def State.answerNext (s : State) : State :=
  match s.responder.answering with
  | [] => s
  | e :: _ => s.answerHead e.answerRow

/-- So many requests that wait are answered, in the order taken. -/
def State.answerFor : Nat → State → State
  | 0, s => s
  | n + 1, s => State.answerFor n s.answerNext

/-- Every request that waits is answered now (R128, R130). -/
def State.answerAll (s : State) : State := s.answerFor s.responder.answering.length

/-! ### Writes (R145) -/

/-- The filters after a write of one word (R102). -/
def writeFilterWord (fs : Vector FilterUnit 8) (i : Nat) (w : Word) : Vector FilterUnit 8 :=
  let u : Fin 8 := Fin.ofNat 8 (i / 2)
  fs.set u (if i % 2 = 0 then { fs[u] with pattern := w } else { fs[u] with mask := w })

/-- A write of the notice target (R175): NONE makes the notice state IDLE and the reminder count 0. -/
def State.writeTarget (t : NoticeTarget) (s : State) : State :=
  { s with
    config := { s.config with target := t }
    events := if t = .none then { s.events with notice := .idle, reminder := 0 } else s.events }

/-- The reminder count where a clear or an enable set leaves no event both pending and enabled: it ends, at the round start
that applies the change in IN_ROUND, and for the next round start in any other tracking state (R176, R178, log entry 40). -/
def State.reminderEnds (s : State) : State :=
  if (s.events.pending &&& s.config.enable) == 0 then { s with events := { s.events with reminder := 0 } } else s

/-- A write of one NODE_CONFIG word: checked against its values, then taken (R139, R107, R121, R175). -/
def State.writeConfigWord (i : Nat) (w : Word) (s : State) : Status × State :=
  match i with
  | 0 => match targetOf w with
    | none => (.badRequest, s)
    | some t => (.ok, s.writeTarget t)
  | 1 => (.ok, ({ s with config := { s.config with enable := w.setWidth 16 } } : State).reminderEnds)
  | 2 => (.ok, { s with config := { s.config with groups := w.setWidth 16 } })
  | 3 =>
    if 256 ≤ w.toNat && w.toNat ≤ 8192 && w.toNat % 4 == 0 then (.ok, { s with config := { s.config with threshold := w.toNat } })
    else (.badRequest, s)
  | 4 =>
    if 4 ≤ w.toNat && w.toNat ≤ 255 then (.ok, { s with config := { s.config with timeout := w.toNat } }) else (.badRequest, s)
  | 5 => match periodOfMicros w.toNat with
    | none => (.badRequest, s)
    | some p => (.ok, { s with config := { s.config with period := p } })
  | 6 =>
    if 1 ≤ w.toNat && w.toNat ≤ 48 then (.ok, { s with config := { s.config with slotCount := w.toNat } }) else (.badRequest, s)
  | _ =>
    if 32 ≤ w.toNat && w.toNat ≤ 480 then (.ok, { s with config := { s.config with openCapacity := w.toNat } })
    else (.badRequest, s)

/-- One word of a write handed to the owner of its space (R145). -/
def State.writeWord (space i : Nat) (w : Word) (s : State) : Status × State :=
  match space with
  | 1 => s.writeConfigWord i w
  | 6 =>
    let c := ctxOf (i / 3)
    let (st, x) := s.contexts[c].writeConfig w
    (st, s.mapCtx c fun _ => x)
  | 7 => (.ok, { s with filters := writeFilterWord s.filters i w })
  | _ =>
    let (st, p) := s.plan.writeWord space i w
    (st, { s with plan := p })

/-- The words of a write in ascending index order; at the first refused word the write stops (R145).  Beside the
status, the index at which it stopped. -/
def State.writeWords (space i : Nat) (ws : List Word) (s : State) : Status × Nat × State :=
  match ws with
  | [] => (.ok, i, s)
  | w :: rest =>
    let (st, t) := s.writeWord space i w
    if st = .ok then t.writeWords space (i + 1) rest else (st, i, t)

/-- A write may reach the index (R138). -/
def indexWritable (space i : Nat) : Bool :=
  match space with
  | 1 => true
  | 2 => true
  | 3 => true
  | 4 => true
  | 6 => i % 3 == 0
  | 7 => true
  | _ => false

/-- The checks of a write as a whole (R145); none where it passes them. -/
def writeCheck (body : List Word) : Option Status :=
  match spaceSize (reqSpace body) with
  | none => some .noSuchSpace
  | some size =>
    if (reqData body).isEmpty then some .badRequest
    else if size < reqIndex body + (reqData body).length then some .outOfRange
    else if (List.range (reqData body).length).all (fun k => indexWritable (reqSpace body) (reqIndex body + k)) then none
    else some .readOnly

/-- What applying a request leaves: the status, the reply body, the index that a failure records, the release, and the
state. -/
abbrev Applied := Status × List Word × Nat × Option Release × State

/-- A write at its application (R145). -/
def State.applyWrite (body : List Word) (s : State) : Applied :=
  match writeCheck body with
  | some st => (st, [], reqIndex body, none, s)
  | none =>
    let (st, i, t) := s.writeWords (reqSpace body) (reqIndex body) (reqData body)
    (st, if st = .ok then [] else [field 7 0 i], i, none, t)

/-! ### Commands applied from the work queue (9.4) -/

/-- CLEAR_EVENTS (R148, R178): the notice state is not changed. -/
def State.clearEvents (set : BitVec 16) (s : State) : State :=
  let r := if set.getLsbD Event.writeFailed.bit then { s.responder with capture := none, overrun := false } else s.responder
  ({ s with events := { s.events with pending := s.events.pending &&& ~~~set }, responder := r } : State).reminderEnds

/-- CLEAR_COUNTERS, form NODE (R148). -/
def State.clearNodeCounters (s : State) : State := { s with counters := Vector.replicate 32 0 }

def Context.clearCounters (c : Context) : Context := { c with counters := Vector.replicate 11 0 }

/-- CLEAR_COUNTERS, form ALL (R148). -/
def State.clearAllCounters (s : State) : State :=
  { s.clearNodeCounters with contexts := s.contexts.map Context.clearCounters }

/-- The allocation words at the start of an epoch: SLOT_BUDGET the SLOT_COUNT, no tag allocated (R155). -/
def freshAlloc (slotCount : Nat) : Vector Word 5 := (Vector.replicate 5 (0 : Word)).set 0 (BitVec.ofNat 32 slotCount)

/-- TAKE_HOLDER (R154). -/
def State.takeHolder (s : State) : Status × State :=
  if s.responder.holder then (.wrongState, s)
  else (.ok, { s with responder := { s.responder with holder := true, alloc := freshAlloc s.tracker.params.slotCount } })

/-- DROP_HOLDER (R154). -/
def State.dropHolder (s : State) : Status × State :=
  if s.responder.holder then (.ok, { s with responder := { s.responder with holder := false } }) else (.wrongState, s)

/-- The rows that apply a work-queue entry. -/
inductive WorkRow where
  | commitPlan
  | cancelCommit
  | startContext
  | stopContext
  | haltContext
  | flushDropQueue
  | clearEvents
  | clearCountersNode
  | clearCountersContext
  | clearCountersAll
  | takeHolder
  | dropHolder
  | restartRing
  | nodeReset
  | writePlanEdit
  | writeContextConfig
  | writeFilters
  | writeNoticeTarget
  | writeEnableSet
  | writeGroupMembership
  | writeDropThreshold
  | writeRegister
  deriving DecidableEq, Repr

/-- The row of a write, by its space and first index (log entry 25). -/
def writeRow (body : List Word) : WorkRow :=
  match reqSpace body with
  | 1 =>
    match reqIndex body with
    | 0 => .writeNoticeTarget
    | 1 => .writeEnableSet
    | 2 => .writeGroupMembership
    | 3 => .writeDropThreshold
    | _ => .writeRegister
  | 2 => .writePlanEdit
  | 3 => .writePlanEdit
  | 4 => .writePlanEdit
  | 6 => .writeContextConfig
  | 7 => .writeFilters
  | _ => .writeRegister

/-- The row of a CLEAR_COUNTERS by its form; the unassigned form goes with NODE and is refused there (log entry 25). -/
def clearRow (form : Nat) : WorkRow :=
  match form with
  | 1 => .clearCountersContext
  | 2 => .clearCountersAll
  | _ => .clearCountersNode

/-- The row that applies an entry of the work queue. -/
def WorkEntry.row (e : WorkEntry) : WorkRow :=
  match e.kind with
  | .command =>
    match reqCommand e.body with
    | 4 => .commitPlan
    | 5 => .cancelCommit
    | 6 => .startContext
    | 7 => .stopContext
    | 8 => .haltContext
    | 9 => .flushDropQueue
    | 10 => .clearEvents
    | 11 => clearRow (reqForm e.body)
    | 12 => .takeHolder
    | 13 => .dropHolder
    | 14 => .restartRing
    | _ => .nodeReset
  | _ => writeRow e.body

/-- An outcome with no failure index and no release. -/
def plainly (r : Status × List Word × State) : Applied := (r.1, r.2.1, 0, none, r.2.2)

/-- The effect a row gives to the request that carries `body` (R50, R54, R76 to R80, R109, R148, R149, R154, R145). -/
def State.applyBy (row : WorkRow) (body : List Word) (s : State) : Applied :=
  match row with
  | .commitPlan => plainly (s.commitPlan (BitVec.ofNat 16 (reqOperand body)))
  | .cancelCommit => plainly s.cancelCommit
  | .startContext => plainly (s.contextCommand (reqOperand body) Context.start)
  | .stopContext => plainly (s.contextCommand (reqOperand body) fun c => (.ok, c.stop))
  | .haltContext => plainly (s.contextCommand (reqOperand body) fun c => (.ok, c.halt))
  | .flushDropQueue => plainly s.flushDropQueue
  | .clearEvents => plainly (.ok, [], s.clearEvents (BitVec.ofNat 16 (reqOperand body)))
  | .clearCountersNode => plainly (if reqForm body = 0 then (.ok, [], s.clearNodeCounters) else (.badRequest, [], s))
  | .clearCountersContext =>
    plainly (if 15 < reqOperand body then (.outOfRange, [], s)
      else (.ok, [], s.mapCtx (ctxOf (reqOperand body)) Context.clearCounters))
  | .clearCountersAll => plainly (.ok, [], s.clearAllCounters)
  | .takeHolder => plainly (s.takeHolder.1, [], s.takeHolder.2)
  | .dropHolder => plainly (s.dropHolder.1, [], s.dropHolder.2)
  | .restartRing => (.ok, [], 0, some .restartRing, s)
  | .nodeReset => (.ok, [], 0, some .nodeReset, s)
  | .writePlanEdit => s.applyWrite body
  | .writeContextConfig => s.applyWrite body
  | .writeFilters => s.applyWrite body
  | .writeNoticeTarget => s.applyWrite body
  | .writeEnableSet => s.applyWrite body
  | .writeGroupMembership => s.applyWrite body
  | .writeDropThreshold => s.applyWrite body
  | .writeRegister => s.applyWrite body

/-- The command waits for its release from the moment of its application, unless its reply place carries the mark
(R149).  A command from the ring that is applied because of a ring restart: a RESTART_RING is dropped (R150). -/
def State.addRelease (e : WorkEntry) (rel : Option Release) (s : State) : State :=
  match rel with
  | none => s
  | some r =>
    let fromRing := e.origin != .self
    if e.origin = .unicast && e.place then s
    else if fromRing && (e.origin = .unicast || !s.inRound) && r == .restartRing then s
    else { s with responder := { s.responder with releases := s.responder.releases ++ [r] } }

/-- The outcome of an applied entry is reported (R145, R146, R147): a refusal of a posted write or of a group request is
recorded; the reply of any other is filled into its reserved place, or discarded where the place is lost. -/
def State.report (e : WorkEntry) (a : Applied) : State :=
  let (st, body, i, rel, s) := a
  let t :=
    if e.kind = .writePosted || e.origin = .group then (if isRefusal st then s.recordFailure e i st else s)
    else if e.origin = .unicast && !e.place then s
    else s.fillReply e st body rel
  t.addRelease e rel

/-- The entry at the front of the work queue is applied by its row, if it is due (R144). -/
def State.applyHead (row : WorkRow) (s : State) : State :=
  match s.responder.work with
  | [] => s
  | e :: rest =>
    if 0 < s.responder.applyDue && e.row = row then
      State.report e
        (({ s with responder := { s.responder with work := rest, applyDue := s.responder.applyDue - 1 } }).applyBy row e.body)
    else s

/-! ### The Responder's round start (R144, R153, R155) -/

/-- The lease of a held claim falls by one; every entry present is due; a holder sets its allocation words at the first
round start of an epoch. -/
def Responder.roundStart (first : Bool) (slotCount : Nat) (r : Responder) : Responder :=
  { r with
    claim := if r.claim.holder.isSome then { r.claim with lease := r.claim.lease - 1 } else r.claim
    applyDue := r.work.length
    alloc := if first && r.holder then freshAlloc slotCount else r.alloc }

/-- A held claim whose lease has reached 0 (R153). -/
def ClaimRecord.expired (c : ClaimRecord) : Bool := c.holder.isSome && c.lease == 0

/-- CLAIM_EXPIRED (R153). -/
def State.expireClaim (s : State) : State :=
  ({ s with responder := { s.responder with claim := {} } }).raise .claimExpired

end Sys2Proof.Machine
end

