-- ==== Sys2Proof/Machine/Port.lean ====
section
/-!
DEFINITION. The Originator and the Tributary Port (chapter 10): Give frames decided, the Take side and its arbiter, the
table of outstanding ring requests.
-/

namespace Sys2Proof.Machine

open Sys2Proof

/-! ### LOCAL_REQUEST (R165, R166) -/

/-- A destination that is taken as SELF: 126, or the node's own ID (R165). -/
def State.isSelfDest (d : Nat) (s : State) : Bool := d == 126 || s.tracker.nodeId == some d

/-- The tests of a LOCAL_REQUEST frame, in their order (R165). -/
def State.requestTest (f : List Half) (s : State) : Status :=
  let body := frameBody f
  match reqKindOfCode (giveReqKind f) with
  | none => .badRequest
  | some k =>
    if !(isTrunkDest (giveDest f) || giveDest f == 126) then .badRequest
    else if 10 < giveBodyLength f || giveBodyLength f != body.length || frameOdd f then .badRequest
    else if k = .read && !(body.length == 1 && 1 ≤ reqCount body && reqCount body ≤ 8) then .badRequest
    else if !(s.isSelfDest (giveDest f) || s.inRound) then .ringDown
    else if s.freeCompletions = 0 then .tableFull
    else if !s.isSelfDest (giveDest f) && Config.tableLimit ≤ s.originator.length then .tableFull
    else .ok

/-- The lowest ring tag that no entry of the table holds (R165). -/
def lowestFreeTag (table : List OrigEntry) : Nat := ((List.range 32).find? fun t => table.all fun e => e.tag != t).getD 0

/-- The request of an accepted frame taken as SELF (R166). -/
def State.selfEntry (f : List Half) (s : State) : WorkEntry :=
  { kind := (reqKindOfCode (giveReqKind f)).getD .read, origin := .self, source := s.selfSource, tag := giveRef f, place := false
    body := frameBody f }

/-- A SELF request is handed to the Responder, which takes it or answers BUSY_RETRY (R141, R166). -/
def State.handSelf (e : WorkEntry) (s : State) : State :=
  match s.take e with
  | some t => t
  | none => s.complete e.tag (statusByte .busyRetry) []

/-- The table entry of an accepted ring request (R165). -/
def State.ringEntry (f : List Half) (s : State) : OrigEntry :=
  { ref := giveRef f, tag := lowestFreeTag s.originator, dest := giveDest f, kind := (reqKindOfCode (giveReqKind f)).getD .read
    body := frameBody f }

/-- A GIVE_RESULT joins the Take side (R160, R161). -/
def State.giveResult (f : List Half) (st : Status) (s : State) : State :=
  { s with port := { s.port with giveResults := s.port.giveResults ++ [{ ref := giveRef f, kind := giveKind f, status := st }] } }

/-- A LOCAL_REQUEST decided (R165, R166). -/
def State.requestOffer (f : List Half) (s : State) : State :=
  let st := s.requestTest f
  let t := s.giveResult f st
  if st ≠ .ok then t
  else if s.isSelfDest (giveDest f) then t.handSelf (s.selfEntry f)
  else { t with originator := t.originator ++ [s.ringEntry f] }

/-! ### The Give lane (R160, R161) -/

/-- GREADY (R159, R161). -/
def State.gready (s : State) : Bool := !s.resetAsserted && s.port.giveResults.length < Config.giveResultLimit

/-- A Give frame decided at its last transfer, by its kind code (R160).  A frame that ends before its header word is
complete is discarded without a GIVE_RESULT. -/
def State.decideGive (f : List Half) (s : State) : State :=
  if frameShort f then s
  else if giveKind f = 1 then let (st, t) := s.insertOffer f; t.giveResult f st
  else if giveKind f = 2 then s.requestOffer f
  else s.giveResult f .badRequest

/-- A Give frame is given: while GREADY is low none of its transfers is taken, and it stands on the lane (R161). -/
def State.giveFrame (f : List Half) (s : State) : State :=
  if s.gready && s.port.stalled.isEmpty then s.decideGive f
  else { s with port := { s.port with stalled := s.port.stalled ++ [f] } }

/-- The oldest frame on the lane is taken once GREADY is high. -/
def State.unstall (s : State) : State :=
  match s.port.stalled with
  | [] => s
  | f :: rest => ({ s with port := { s.port with stalled := rest } }).decideGive f

/-! ### The Take side (R162, R163) -/

/-- A notice is due to the target LOCAL or to the node's own ID (R162, R177). -/
def State.ownNoticeWaits (s : State) : Bool :=
  s.events.notice == .due &&
    match s.config.target with
    | .none => false
    | .local => true
    | .node id => s.tracker.nodeId == some id

/-- The Drop Queue holds a record that is not in transfer (R108, R162; log entry 29). -/
def DropQueue.waits (q : DropQueue) : Bool := (if q.inTransfer then 1 else 0) < q.records.length

/-- The waiting frame that the Take arbiter presents (R163). -/
def State.takeChoice (s : State) : Option TakeKind :=
  if !s.port.giveResults.isEmpty then some .giveResult
  else if !s.port.completions.isEmpty then some .completion
  else if s.ownNoticeWaits then some .ownNotice
  else if s.port.notice.isSome then some .receivedNotice
  else if s.drop.waits then some .dropRecord
  else none

/-- ATTN: at least one frame waits (R162); low while RESET# is asserted (R159). -/
def State.attn (s : State) : Bool := !s.resetAsserted && s.takeChoice.isSome

/-- KVALID: a frame is waiting or in transfer (R159). -/
def State.kvalid (s : State) : Bool := !s.resetAsserted && (s.takeChoice.isSome || s.port.transfer.isSome)

def giveResultWords (g : GiveResult) : List Word :=
  [field 31 24 8 ||| field 23 16 g.ref ||| field 15 8 g.kind ||| field 7 0 (statusCode g.status)]

def completionWords (c : Completion) : List Word :=
  (field 31 24 9 ||| field 23 16 c.ref ||| field 15 8 c.status.toNat ||| field 3 0 c.body.length) :: c.body

def noticeWords (origin : Nat) (pending : BitVec 16) (round : RoundNo) : List Word :=
  [field 31 24 10 ||| field 23 16 origin, field 31 16 round.toNat ||| field 15 0 pending.toNat]

/-- A drop record's words (12.2).  A drop record has no local reference, and its header's bits 23:16 are sent 0 (log entry
39). -/
def dropRecordWords (r : DropRec) : List Word :=
  (field 31 24 11 ||| field 15 12 r.ctx.val ||| field 11 5 r.tag.toNat ||| flag 1 r.tapped ||| flag 0 r.resync) ::
    (field 31 16 r.firstRound.toNat ||| field 15 11 r.cells ||| field 8 0 r.payload.length) :: payloadWords r.payload

/-- The Event unit at the departure of a notice (R176, R177). -/
def EventUnit.departed (u : EventUnit) : EventUnit := { u with notice := .idle, reminder := 0 }

/-- The words of the frame of the given kind that comes first, as they stand now (R162, 12.2). -/
def State.takeWords (k : TakeKind) (s : State) : List Word :=
  match k with
  | .giveResult => (s.port.giveResults.head?.map giveResultWords).getD []
  | .completion => (s.port.completions.head?.map completionWords).getD []
  | .ownNotice => noticeWords 126 s.events.pending s.tracker.round
  | .receivedNotice => (s.port.notice.map fun n => noticeWords n.source n.pending n.round).getD []
  | .dropRecord => (s.drop.records.head?.map dropRecordWords).getD []

/-- What waits no longer once the first word of a frame of the given kind has been taken (R108, R127, R161, R164, R177). -/
def State.takeLeaves (k : TakeKind) (s : State) : State :=
  match k with
  | .giveResult => { s with port := { s.port with giveResults := s.port.giveResults.drop 1 } }
  | .completion => { s with port := { s.port with completions := s.port.completions.drop 1 } }
  | .ownNotice => { s with events := s.events.departed }
  | .receivedNotice => { s with port := { s.port with notice := none } }
  | .dropRecord => { s with drop := { s.drop with inTransfer := true } }

/-- A frame begins its transfer: its first transfer is carried, and the frame keeps the contents it has now (R163). -/
def Port.start (k : TakeKind) (ws : List Word) (p : Port) : Port :=
  { p with transfer := some { kind := k, words := ws, place := 1 }, lane := p.lane ++ (laneTransfers ws).take 1 }

/-- The first word of a frame of the given kind is taken: the frame is in transfer with the contents it has now, and it
waits no longer. -/
def State.beginTake (k : TakeKind) (s : State) : State :=
  { s.takeLeaves k with port := (s.takeLeaves k).port.start k (s.takeWords k) }

/-- What the part drives on KD, KFIRST and KLAST while KVALID is high: the next transfer of the frame in transfer, or the
first of the frame presented (R159, R163). -/
def State.laneDriven (s : State) : Option LaneTransfer :=
  if s.resetAsserted then none
  else
    match s.port.transfer with
    | some f => (laneTransfers f.words)[f.place]?
    | none =>
      match s.takeChoice with
      | some k => (laneTransfers (s.takeWords k)).head?
      | none => none

/-- The first word of the presented frame is taken, if no frame is in transfer (R163). -/
def State.takeStart (s : State) : State :=
  if s.resetAsserted || s.port.transfer.isSome then s
  else
    match s.takeChoice with
    | none => s
    | some k => s.beginTake k

/-- The last word of the frame in transfer is taken (R163); a drop record then leaves its queue (R108). -/
def State.takeEnd (s : State) : State :=
  if s.resetAsserted then s
  else
    match s.port.transfer with
    | none => s
    | some f =>
      let t := { s with port := { s.port with transfer := none, lane := s.port.lane ++ (laneTransfers f.words).drop f.place } }
      if f.kind = .dropRecord then
        ({ t with drop := { records := s.drop.records.drop 1, inTransfer := false } }).count .dropRecordsTaken
      else t

/-! ### A ring transaction (R167 to R170) -/

/-- A table entry completes and leaves the table (R165). -/
def State.completeEntry (e : OrigEntry) (status : BitVec 8) (body : List Word) (s : State) : State :=
  ({ s with originator := s.originator.filter fun x => x.tag != e.tag }).complete e.ref status body

/-- The SENT entry that a REPLY matches (R168). -/
def OrigEntry.matchesReply (source tag : Nat) (e : OrigEntry) : Bool :=
  e.sent && e.tag == tag && if e.dest ≤ 59 then e.dest == source else e.kind == .read || e.kind == .swap

/-- A REPLY delivered to the Originator (R168). -/
def State.replyArrives (m : RxMessage) (s : State) : State :=
  match s.originator.find? (OrigEntry.matchesReply (msgSource m) (msgTag m)) with
  | none => s.count .lateReply
  | some e =>
    if msgBounced m then s.completeEntry e (statusByte .busyRetry) []
    else s.completeEntry e (msgStatus m) ((msgBody m).take 8)

/-- A request that has returned to its source (R169). -/
def State.requestReturns (kind : ReqKind) (m : RxMessage) (s : State) : State :=
  match s.originator.find? fun e => e.sent && e.tag == msgTag m && e.dest == msgDest m && e.kind == kind with
  | none => s
  | some e =>
    if msgDest m ≤ 59 then s.completeEntry e (statusByte .noNode) []
    else if kind = .read || kind = .swap then
      if msgClaimed m then s else s.completeEntry e (statusByte .noMember) []
    else s.completeEntry e (statusByte .ok) []

/-- The rounds remaining of every SENT entry fall by one (R167, R170). -/
def OrigEntry.roundStart (e : OrigEntry) : OrigEntry := if e.sent then { e with remaining := e.remaining - 1 } else e

/-- A SENT entry whose rounds remaining have reached 0 (R170). -/
def OrigEntry.expired (e : OrigEntry) : Bool := e.sent && e.remaining == 0

/-- TRANSACTION_TIMEOUT of the entry with a ring tag (R170). -/
def State.timeOut (tag : Nat) (s : State) : State :=
  match s.originator.find? fun e => e.tag == tag && e.expired with
  | none => s
  | some e => s.completeEntry e (statusByte .timedOut) []

end Sys2Proof.Machine
end

