-- ==== Sys2Proof/Machine/Messages.lean ====
section
/-!
DEFINITION. The open-region handler (chapter 8): an arriving message removed, bounced or forwarded, and the insertion
arbiter at the trailer.
-/

namespace Sys2Proof.Machine

open Sys2Proof

/-- A message is sent into the open region of the round in hand, and counted (R132). -/
def State.sendMessage (m : RxMessage) (s : State) : State :=
  ({ s with tx := { s.tx with words := s.tx.words + msgLength m, messages := s.tx.messages + 1 } }).emit (.message m)

/-- The hop budget of an emitted message: node count + 1 (R120). -/
def State.hopBudget (s : State) : Nat := s.tracker.params.nodeCount + 1

/-- The ID that a message's source field carries; a node IN_ROUND holds one (R4). -/
def State.ownId (s : State) : Nat := s.tracker.nodeId.getD 0

/-- A message is forwarded with its hop budget one less, or removed as stale (R130, R131). -/
def State.forward (m : RxMessage) (setClaimed : Bool) (s : State) : State :=
  if msgHops m ≤ 1 then s.count .msgStale else s.sendMessage (forwardedMessage m setClaimed)

/-- The Responder's view of a request that arrived as a message (R144). -/
def requestEntry (kind : ReqKind) (origin : Origin) (m : RxMessage) : WorkEntry :=
  { kind, origin, source := .node (msgSource m), tag := msgTag m, place := false, body := msgBody m }

/-- The REPLY that a bounce puts in the request's place (R126). -/
def State.bounceReply (m : RxMessage) (s : State) : RxMessage :=
  buildMessage 5 (msgSource m) s.ownId (msgTag m) s.hopBudget true (statusCode .busyRetry) []

/-- A unicast request delivered here: taken and removed, or bounced in place (R125, R126, R141). -/
def State.requestDelivered (kind : ReqKind) (m : RxMessage) (s : State) : State :=
  match s.take (requestEntry kind .unicast m) with
  | some t => t
  | none => (s.count .requestsBounced).sendMessage (s.bounceReply m)

/-- A NOTICE delivered here fills the received-notice place, or replaces what waits there (R127). -/
def State.noticeDelivered (m : RxMessage) (s : State) : State :=
  let t := if s.port.notice.isSome then s.count .noticesReplaced else s
  let n : ReceivedNotice :=
    { source := msgSource m, pending := (bodyWord (msgBody m) 0).setWidth 16, round := (bodyWord (msgBody m) 1).setWidth 16 }
  { t with port := { t.port with notice := some n } }

/-- A message addressed to the node's own ID, from another source (R125). -/
def State.delivered (m : RxMessage) (s : State) : State :=
  match reqKindOfCode (msgKind m) with
  | some k => s.requestDelivered k m
  | none => if msgKind m = 5 then s.replyArrives m else s.noticeDelivered m

/-- A message whose source is the node's own ID has returned, and is removed (R124). -/
def State.returned (m : RxMessage) (s : State) : State :=
  match reqKindOfCode (msgKind m) with
  | some k => s.requestReturns k m
  | none => s.count .msgUndelivered

/-- The node is a member of the group addressed, or broadcast is addressed (R121). -/
def State.addressedAsMember (d : Nat) (s : State) : Bool :=
  d == 127 || (isGroupDest d && s.config.groups.getLsbD (d - 64))

/-- A group or broadcast READ or SWAP at a member (R128); the Bool says that CLAIMED is to be set.  The table's rows
are taken in its order: a SWAP at a node that is no holder counts nothing (log entry 44). -/
def State.groupReadSwap (kind : ReqKind) (m : RxMessage) (s : State) : Bool × State :=
  if msgClaimed m then (false, s)
  else if kind = .swap && !s.responder.holder then (false, s)
  else
    match s.take (requestEntry kind .unicast m) with
    | some t => (true, t)
    | none => (false, s.count .groupReadPassed)

/-- A message for a group of which the node is a member, or for broadcast: acted on, its answer included, and then
forwarded (R128 to R130, log entry 41). -/
def State.groupMessage (m : RxMessage) (s : State) : State :=
  match reqKindOfCode (msgKind m) with
  | none => s.forward m false
  | some .read => let (b, t) := s.groupReadSwap .read m; t.answerAll.forward m b
  | some .swap => let (b, t) := s.groupReadSwap .swap m; t.answerAll.forward m b
  | some k => (s.takeGroup (requestEntry k .group m)).answerAll.forward m false

/-- A message arrival: the first row of R122 that fits. -/
def State.handleMessage (m : RxMessage) (s : State) : State :=
  if !msgGood m then (s.count .msgCheckFail).raise .inputCheckFail
  else if msgMalformed m then s.count .msgMalformed
  else if s.tracker.nodeId = some (msgSource m) then s.returned m
  else if s.tracker.nodeId = some (msgDest m) then s.delivered m
  else if s.addressedAsMember (msgDest m) then s.groupMessage m
  else s.forward m false

/-! ### Insertion at the trailer (R133, R134) -/

/-- What the insertion arbiter offers (R133). -/
inductive Offer where
  | reply (r : Reply)
  | notice (target : Nat)
  | request (e : OrigEntry)
  deriving DecidableEq, Repr

/-- The notice target where a due notice goes as a message: a node ID other than the node's own (R133, R177). -/
def State.noticeDest (s : State) : Option Nat :=
  match s.config.target with
  | .node id => if s.events.notice = .due && s.tracker.nodeId != some id then some id else none
  | _ => none

/-- The message that the arbiter offers next: filled replies oldest first, the due notice, then the table entries in
AWAITING_ROOM oldest first (R133). -/
def State.nextOffer (s : State) : Option Offer :=
  match s.responder.replies with
  | r :: _ => some (.reply r)
  | [] =>
    match s.noticeDest with
    | some id => some (.notice id)
    | none => (s.originator.find? fun e => !e.sent).map .request

/-- The message of an offer (R134). -/
def State.offerMessage (o : Offer) (s : State) : RxMessage :=
  match o with
  | .reply r => buildMessage 5 r.dest s.ownId r.tag s.hopBudget false (statusCode r.status) r.body
  | .notice id => buildMessage 6 id s.ownId 0 s.hopBudget false 0 [s.events.pending.setWidth 32, s.tracker.round.setWidth 32]
  | .request e => buildMessage (reqKindCode e.kind) e.dest s.ownId e.tag s.hopBudget false 0 e.body

/-- The release of a command whose reply has departed (R149). -/
def State.releaseMark (mark : Option Release) (s : State) : State :=
  match mark with
  | none => s
  | some .nodeReset => s.softReset
  | some .restartRing => s.restartReleased

/-- What the owner does at the insertion (R134): the reply place is emptied, which is the reply's departure and releases
what it marks; the notice is no longer due; the entry is SENT with the transaction timeout. -/
def State.ownerActs (o : Offer) (s : State) : State :=
  match o with
  | .reply r => State.releaseMark r.mark { s with responder := { s.responder with replies := s.responder.replies.drop 1 } }
  | .notice _ => { s with events := s.events.departed }
  | .request e =>
    { s with originator := s.originator.map fun x =>
        if x.tag = e.tag then { x with sent := true, remaining := s.config.timeout } else x }

/-- Room-left at this moment of the round (R132). -/
def State.roomLeft (s : State) : Nat := s.tracker.params.openCapacity - s.tx.words

/-- An offer is inserted (R134).  MESSAGES_INSERTED counts before the owner acts, so the soft reset that a NODE_RESET's
reply releases clears that count too (log entry 36). -/
def State.insertOffered (o : Offer) (s : State) : State :=
  ((s.sendMessage (s.offerMessage o)).count .messagesInserted).ownerActs o

/-- The insertion arbiter (R133): it stops at the first message that does not fit, and counts ROOM_SHORT.  A release
may take the node out of IN_ROUND: nothing more of the round is then sent (R27). -/
def State.arbiter : Nat → State → State
  | 0, s => s
  | n + 1, s =>
    if !s.inRound then s
    else
      match s.nextOffer with
      | none => s
      | some o =>
        if msgLength (s.offerMessage o) ≤ s.roomLeft then State.arbiter n (s.insertOffered o)
        else s.count .roomShort

/-- As many offers as can stand: every filled reply, the notice, every entry. -/
def State.arbiterFuel (s : State) : Nat := s.responder.replies.length + s.originator.length + 2

/-- Steps 2 and 3 of R9: the insertion opportunity, then the trailer with room-left and the count of messages sent; the
round in hand is then finished. -/
def State.sendTrailer (s : State) : State :=
  let t := s.arbiter s.arbiterFuel
  if t.inRound then
    { t.emit (buildTrailer t.roomLeft t.tx.messages) with
      tx := {}
      rx := if t.isMaster then t.rx else {} }
  else t

end Sys2Proof.Machine
end

