-- ==== Sys2Proof/Machine/Settle.lean ====
section
/-!
DEFINITION. The steps that the part takes by itself: when each is due, what it does, and how a command ends.

A command that leaves such steps due ends in one of two ways (log entry 1).  If the next command of the queue is an
internal step, the queue says which of them comes first, and nothing more is done here.  Otherwise the part takes all
that are due, in an order drawn from `choice` where the spec leaves it open (log entry 2).  So no arrival ever meets a
step that is still due.
-/

namespace Sys2Proof.Machine

open Sys2Proof

/-- The internal steps.  `planRestart`, `unstall`, `raiseUp` and `raiseLate` have no row of their own (R55, R161, R176, R178). -/
inductive Work where
  | answer (row : AnswerRow)
  | unstall
  | raiseUp
  | raiseLate
  | linkUp
  | errorRunLimit
  | missedRoundMember
  | missedRoundMaster
  | seekTimeout
  | enumerationTimeout
  | isolationRetry
  | planRestart
  | commitApplied
  | claimExpired
  | contextResume
  | staleAssembly (ctx : Fin 16)
  | insertDrained (ctx : Fin 16)
  | apply (row : WorkRow)
  | transactionTimeout (tag : Nat)
  | noticeReminder
  | restartRelease
  | softReset
  deriving DecidableEq, Repr

/-! ### What each does -/

/-- LINK_UP (R1, R23). -/
def State.linkUp (s : State) : State :=
  { s with
    inPort := { s.inPort with link := .up, errorRun := 0 }
    tracker := { s.tracker with tracking := .seeking, seekTimer := 0 } }

/-- The input link goes from UP to DOWN (R1, R22). -/
def State.linkLost (s : State) : State :=
  (({ s with inPort := { s.inPort with link := .down } }).count .linkDown).leaveUp

/-- ENUMERATION_TIMEOUT (R34).  A structure begun before the entry into ISOLATED is completed in it (log entry 47). -/
def State.enumerationTimeout (s : State) : State :=
  let t := s.count .enumTimeout
  let t := { t with tracker := { t.tracker with failed := t.tracker.failed + 1 } }
  if t.tracker.failed < Config.attemptLimit then t.originateRestart
  else
    ({ t with tracker := { t.tracker with
        tracking := .isolated, phase := .none, nodeId := none, enumTimer := 0, retryTimer := 0 } }).raise .isolated

/-- The Event unit at a round start (R176): while an enabled event is pending and the target is not NONE the reminder
count runs, and at 512 a notice is due. -/
def State.reminderStart (s : State) : State :=
  let u := { s.events with startDue := false }
  { s with events :=
      if s.reminderRuns then
        if u.reminder + 1 < Config.reminderLimit then { u with reminder := u.reminder + 1 }
        else { u with reminder := 0, notice := .due }
      else { u with reminder := 0 } }

/-- A RESTART_RING released after its work queue has been applied (R149, R27). -/
def State.releaseRestart (s : State) : State :=
  State.restartReleased { s with responder := { s.responder with releases := s.responder.releases.erase .restartRing } }

/-- What a step does once it is due.  The return of the HELD contexts follows the raising of RING_UP (R93). -/
def Work.perform (w : Work) (s : State) : State :=
  match w with
  | .answer row => s.answerHead row
  | .unstall => s.unstall
  | .raiseUp => s.takeUp
  | .raiseLate => s.takeLate
  | .linkUp => s.linkUp
  | .errorRunLimit => s.linkLost
  | .missedRoundMember => s.roundLoss
  | .missedRoundMaster => s.roundLoss
  | .seekTimeout => s.originateRestart
  | .enumerationTimeout => s.enumerationTimeout
  | .isolationRetry => s.originateRestart
  | .planRestart => s.planRestart
  | .commitApplied => s.applyCommit
  | .claimExpired => s.expireClaim
  | .contextResume => s.takeUp.resumeAll
  | .staleAssembly i => s.endStale i
  | .insertDrained i => s.endDrain i
  | .apply row => s.applyHead row
  | .transactionTimeout tag => s.timeOut tag
  | .noticeReminder => s.reminderStart
  | .restartRelease => s.releaseRestart
  | .softReset => s.softReset

/-! ### When each is due -/

def Work.ready (w : Work) (s : State) : Bool :=
  match w with
  | .answer row => s.responder.answering.head?.any fun e => e.answerRow == row
  | .unstall => s.gready && !s.port.stalled.isEmpty
  | .raiseUp => s.events.upDue
  | .raiseLate => s.events.lateDue
  | .linkUp => s.inPort.link == .training && Config.trainingIdles ≤ s.inPort.goodIdle
  | .errorRunLimit => s.inPort.link == .up && Config.errorRunLimit ≤ s.inPort.errorRun
  | .missedRoundMember => s.inRound && !s.isMaster && Config.missedRoundLimit ≤ s.tracker.missed
  | .missedRoundMaster => s.inRound && s.isMaster && Config.missedRoundLimit ≤ s.tracker.missed
  | .seekTimeout => s.tracker.tracking == .seeking && Config.seekLimit ≤ s.tracker.seekTimer
  | .enumerationTimeout => s.tracker.tracking == .enumerating && Config.enumerationLimit ≤ s.tracker.enumTimer
  | .isolationRetry => s.tracker.tracking == .isolated && Config.isolationLimit ≤ s.tracker.retryTimer
  | .planRestart => s.plan.restartDue
  | .commitApplied => s.inRound && s.plan.commitDue && s.plan.commit != .none
  | .claimExpired => s.responder.claim.expired
  | .contextResume => s.inRound && s.contexts.toList.any Context.canResume
  | .staleAssembly i => s.contexts[i].isStale
  | .insertDrained i => s.contexts[i].drained
  | .apply row => 0 < s.responder.applyDue && s.responder.work.head?.any fun e => e.row == row
  | .transactionTimeout tag => s.originator.any fun e => e.tag == tag && e.expired
  | .noticeReminder => s.events.startDue
  | .restartRelease => s.responder.applyDue == 0 && s.responder.releases.contains .restartRing
  | .softReset =>
    s.responder.applyDue == 0 && s.responder.releases.contains .nodeReset && !s.responder.releases.contains .restartRing &&
      !s.plan.restartDue

/-- A step named by a command of the queue: it is taken if it is due; what is not due does not happen. -/
def State.runWork (w : Work) (s : State) : State := if w.ready s then w.perform s else s

/-- All steps that could be due: those of one kind, those of each context, the application of the entry at the front of
the work queue, and those of each table entry. -/
def State.candidates (s : State) : List Work :=
  ([.unstall, .raiseUp, .raiseLate, .linkUp, .errorRunLimit, .missedRoundMember, .missedRoundMaster, .seekTimeout, .enumerationTimeout,
    .isolationRetry, .planRestart, .commitApplied, .claimExpired, .contextResume] : List Work) ++
  (List.finRange 16).map Work.staleAssembly ++ (List.finRange 16).map Work.insertDrained ++
  s.responder.work.head?.toList.map (fun e => Work.apply e.row) ++
  s.originator.map (fun e => Work.transactionTimeout e.tag) ++ ([.noticeReminder, .restartRelease, .softReset] : List Work)

/-- The steps that are due.  A request that has arrived is answered before anything else (R141). -/
def State.due (s : State) : List Work :=
  match s.responder.answering with
  | e :: _ => [.answer e.answerRow]
  | [] => s.candidates.filter fun w => w.ready s

/-- The part takes every step that is due, the order drawn from `choice`; n bounds how many. -/
def State.settleFor : Nat → State → State
  | 0, s => s
  | n + 1, s =>
    match s.due with
    | [] => s
    | w :: rest =>
      let all := w :: rest
      State.settleFor n ((all.getD (s.choice % all.length) w).perform { s with choice := s.choice / all.length })

/-- More steps than can follow from one arrival: 4 entries, 16 contexts twice, 4 table entries, their releases and the
single ones. -/
def settleFuel : Nat := 96

/-- Every step that is due is taken. -/
def State.settle (s : State) : State := s.settleFor settleFuel

/-! ### The internal rows -/

/-- The internal step that a command names; none for an arrival. -/
def workOf : Instr → Option Work
  | .linkUp => some .linkUp
  | .errorRunLimit => some .errorRunLimit
  | .missedRoundMember => some .missedRoundMember
  | .missedRoundMaster => some .missedRoundMaster
  | .seekTimeout => some .seekTimeout
  | .enumerationTimeout => some .enumerationTimeout
  | .isolationRetry => some .isolationRetry
  | .commitApplied => some .commitApplied
  | .insertDrained i => some (.insertDrained i)
  | .staleAssembly i => some (.staleAssembly i)
  | .contextResume => some .contextResume
  | .transactionTimeout t => some (.transactionTimeout t.val)
  | .reqRead => some (.answer .reqRead)
  | .reqSwap => some (.answer .reqSwap)
  | .claim => some (.answer .claim)
  | .renew => some (.answer .renew)
  | .release => some (.answer .release)
  | .claimExpired => some .claimExpired
  | .commitPlan => some (.apply .commitPlan)
  | .cancelCommit => some (.apply .cancelCommit)
  | .startContext => some (.apply .startContext)
  | .stopContext => some (.apply .stopContext)
  | .haltContext => some (.apply .haltContext)
  | .flushDropQueue => some (.apply .flushDropQueue)
  | .clearEvents => some (.apply .clearEvents)
  | .clearCountersNode => some (.apply .clearCountersNode)
  | .clearCountersContext => some (.apply .clearCountersContext)
  | .clearCountersAll => some (.apply .clearCountersAll)
  | .takeHolder => some (.apply .takeHolder)
  | .dropHolder => some (.apply .dropHolder)
  | .restartRing => some (.apply .restartRing)
  | .restartRingRelease => some .restartRelease
  | .nodeReset => some (.apply .nodeReset)
  | .softReset => some .softReset
  | .writePlanEdit => some (.apply .writePlanEdit)
  | .writeContextConfig => some (.apply .writeContextConfig)
  | .writeFilters => some (.apply .writeFilters)
  | .writeNoticeTarget => some (.apply .writeNoticeTarget)
  | .writeEnableSet => some (.apply .writeEnableSet)
  | .writeGroupMembership => some (.apply .writeGroupMembership)
  | .writeDropThreshold => some (.apply .writeDropThreshold)
  | .writeRegister => some (.apply .writeRegister)
  | .noticeReminder => some .noticeReminder
  | .hardReset _ => none
  | .resetRelease => none
  | .outPortUp => none
  | .signalDetected => none
  | .symbolReceived _ => none
  | .lossOfSignal => none
  | .tick => none
  | .restartMarkerArrival _ _ _ => none
  | .claimFrameArrival _ _ _ _ => none
  | .rollCallArrival _ _ _ _ => none
  | .roundHeaderArrival _ _ _ => none
  | .roundEmission => none
  | .returningHeaderArrival _ _ _ => none
  | .returningCellArrival _ => none
  | .returningMessageArrival _ => none
  | .returningTrailerArrival _ => none
  | .slotEvent _ => none
  | .messageArrival _ => none
  | .trailerArrival _ => none
  | .insertRecord _ => none
  | .localRequest _ => none
  | .giveFrameUnknown _ => none
  | .giveFrameAbort _ => none
  | .takeFrameStart => none
  | .takeFrameEnd => none

/-- The next command of the queue is an internal step: the queue says what is done next. -/
def State.nextIsInternal (s : State) : Bool :=
  match s.pending with
  | [] => false
  | i :: _ => (workOf i).isSome

/-- How every command ends (log entry 1). -/
def State.finish (s : State) : State := if s.nextIsInternal then s else s.settle

end Sys2Proof.Machine
end

