-- ==== Sys2Proof/Machine/Slots.lean ====
section
/-!
DEFINITION. The Slot Processor (chapter 4): the received cell, the action of the round plan, the one cell sent on.
-/

namespace Sys2Proof.Machine

open Sys2Proof

/-- What a slot event leaves: the cell sent on, and the state (R57). -/
abbrev SlotResult := RxCell × State

/-- BLANK: an idle cell in place of the received one; an OCCUPIED cell or one that holds a coding error counts BLANKED.
The cell check is not made (R61). -/
def State.blankSlot (c : RxCell) (s : State) : SlotResult :=
  (idleCell, if cellCodingError c || cellTag c != 0 then s.count .blanked else s)

/-- A drop-side context that may take a cell (R62). -/
def Context.dropEligible (c : Context) : Bool := c.state == .armed || c.state == .running

/-- An insert-side context that may send a cell (R62). -/
def Context.insertEligible (c : Context) : Bool := c.state == .armed || c.state == .running || c.state == .draining

/-- A damaged cell at a TAP or DROP slot (R67). -/
def State.damagedDrop (i : Fin 16) (s : State) : State :=
  ((s.count .cellCheckFail).mapCtx i fun c => (c.count .checkFail).checkFailure).raise .inputCheckFail

/-- A matching cell delivered to context i, with what follows at the Drop Queue (R64, R87); the answer beside it. -/
def State.deliver (i : Fin 16) (tap : Bool) (cell : RxCell) (s : State) : Bool × State :=
  let (c, take, offered) := s.contexts[i].receive s.filters s.tracker.round tap cell
  let t := s.mapCtx i fun _ => c
  (take, match offered with
    | none => t
    | some a => t.offer i a)

/-- A TAP or DROP slot whose context is eligible (R63, R65, R66). -/
def State.dropCell (i : Fin 16) (tap : Bool) (cell : RxCell) (s : State) : SlotResult :=
  if cellDamaged cell then (cell, s.damagedDrop i)
  else if cellTag cell = 0 then (cell, s)
  else if cellTag cell ≠ s.contexts[i].config.tag.toNat then (cell, s.mapCtx i (Context.count .tagMismatch))
  else
    let (take, t) := s.deliver i tap cell
    if !tap && take then (idleCell, t.count .cellsRemoved) else (cell, t)

/-- A TAP or DROP slot (R62, R63). -/
def State.dropSlot (i : Fin 16) (tap : Bool) (cell : RxCell) (s : State) : SlotResult :=
  if s.contexts[i].config.direction ≠ .dropSide then (cell, s.count .sideMismatch)
  else if s.contexts[i].dropEligible then s.dropCell i tap cell
  else (cell, s)

/-- The first INSERT slot takes an ARMED context to RUNNING (R69). -/
def Context.arrive (c : Context) : Context := if c.state = .armed then { c with state := .running } else c

/-- An INSERT slot whose context is eligible and not ARMED (R68, R70, R71). -/
def State.insertCell (i : Fin 16) (cell : RxCell) (s : State) : SlotResult :=
  let c := s.contexts[i]
  if cellDamaged cell then (cell, (s.count .cellCheckFail).raise .inputCheckFail)
  else if cellTag cell = 0 then
    if c.hasCell then (c.nextCell, (s.mapCtx i Context.cellSent).count .cellsInserted)
    else if c.state = .running then (cell, s.mapCtx i (Context.count .noData))
    else (cell, s)
  else if c.hasCell then (cell, (s.mapCtx i (Context.count .collision)).raise .slotCollision)
  else (cell, s)

/-- An INSERT slot (R62, R68, R69). -/
def State.insertSlot (i : Fin 16) (cell : RxCell) (s : State) : SlotResult :=
  if s.contexts[i].config.direction ≠ .insertSide then (cell, s.count .sideMismatch)
  else if s.contexts[i].insertEligible then (s.mapCtx i Context.arrive).insertCell i cell
  else (cell, s)

/-- The action of the round plan for slot k (R57); PASS where no plan is held. -/
def State.slotAction (k : Nat) (s : State) : PlanEntry :=
  match s.plan.roundPlan with
  | none => .pass
  | some p => p.actions.getD k .pass

/-- One slot event under its action (R57, R60 to R71).  A resolved action is never FOLLOW (R39). -/
def State.processSlot (a : PlanEntry) (cell : RxCell) (s : State) : SlotResult :=
  match a with
  | .pass => (cell, s)
  | .tap i => s.dropSlot i true cell
  | .drop i => s.dropSlot i false cell
  | .insert i => s.insertSlot i cell
  | .blank => s.blankSlot cell
  | .follow => (cell, s)

/-- Slot k handled whole: exactly one cell is sent on (R57). -/
def State.handleSlot (k : Nat) (cell : RxCell) (s : State) : State :=
  let (out, t) := s.processSlot (s.slotAction k) cell
  t.emit (.cell out)

/-- The cell that the master carries into a slot, with what its treatment counts and raises (R14). -/
def State.carryCell (c : RxCell) (s : State) : RxCell × State :=
  if cellDamaged c then (idleCell, (s.count .carryCheckFail).raise .inputCheckFail)
  else if cellTag c = 0 then (idleCell, s)
  else if cellLap c then (idleCell, s.count .lapExpired)
  else (lapCell c, s)

end Sys2Proof.Machine
end

