-- ==== Sys2Proof/Machine/Rounds.lean ====
section
/-!
DEFINITION. Rounds on the trunk (chapter 1): round starts at a member and at the master, the slots, messages and trailer
of the round in hand, the carry store, and damaged framing.
-/

namespace Sys2Proof.Machine

open Sys2Proof

/-! ### The round start at the blocks (R6, R11) -/

/-- The round start handed to the Plan Store (R42), the Stream Contexts (R89), the Responder (R144, R153, R155), the
Originator (R170) and the Event unit (R176).  What each of them does next by a row of its own is due from here on. -/
def State.blockRoundStart (first : Bool) (s : State) : State :=
  { s.planStart with
    contexts := s.contexts.map Context.ageRecord
    responder := s.responder.roundStart first s.tracker.params.slotCount
    originator := s.originator.map OrigEntry.roundStart
    events := { s.events with startDue := true } }

/-- Entering IN_ROUND at the end of an enumeration (R31, R32): RING_UP is raised, in either order with the other work of that
round start (log entry 32). -/
def State.enterInRound (s : State) : State :=
  ({ s with tracker := { s.tracker with
      tracking := .inRound, phase := .none, enumTimer := 0, failed := 0, missed := 0, epoch := s.tracker.epoch + 1 } }).startUp

/-! ### Round starts at a member (R6, R7) -/

/-- A round start at a member: the parameters are taken, the timer is reset, the header is sent on, the blocks act. -/
def State.memberStart (first : Bool) (n : RoundNo) (p : RoundParams) (item : TrunkItem) (s : State) : State :=
  let t := ({ s with
    tracker := { s.tracker with round := n, params := p, missed := 0 }
    rx := { phase := .slots, slotCount := p.slotCount }
    tx := { active := true } }).emit item
  t.blockRoundStart first

/-- A header at a member IN_ROUND: as carried where it is good (R6), and counting ROUND_SKIP where numbers were passed
over; with substitute values and a rebuilt header where its check fails (R7). -/
def State.memberHeader (w0 w1 w2 : RxWord) (s : State) : State :=
  let next := s.tracker.round + 1
  if headerGood w0 w1 w2 then
    let t := if headerRound w0 = next then s else s.count .roundSkip
    t.memberStart false (headerRound w0) (headerParams w0 w1) (.header w0 w1 w2)
  else
    (s.count .headerCheckFail).memberStart false next s.tracker.params (buildHeader next s.tracker.params)

/-! ### The slots and messages of the round in hand at a member (R3, R8) -/

/-- Damaged framing counts once for each case (R8). -/
def State.framingFault (s : State) : State := s.count .framingFault

/-- Data words outside any structure are discarded; a run of them is one case (R8, log entry 12). -/
def State.outsideData (s : State) : State :=
  if s.rx.outsideRun then s else ({ s with rx := { s.rx with outsideRun := true } }).framingFault

/-- A marker ends a run of data outside any structure (log entry 12). -/
def State.endRun (s : State) : State := { s with rx := { s.rx with outsideRun := false } }

/-- The reception moves on by one slot. -/
def RxRound.nextSlot (r : RxRound) : RxRound :=
  { r with slots := r.slots + 1, phase := if r.slots + 1 < r.slotCount then .slots else .openRegion }

/-- Slot k arrives at a member (R3, R57). -/
def State.memberSlot (c : RxCell) (s : State) : State :=
  match s.rx.phase with
  | .slots => ({ s with rx := s.rx.nextSlot }).handleSlot s.rx.slots c
  | .outside => s.outsideData
  | _ => s

/-- The slots that did not arrive are handled as idle cells, in slot order (R8); the steps that fall due in one slot are
taken before the next. -/
def State.memberMissing : Nat → State → State
  | 0, s => s
  | n + 1, s => if s.inRound then State.memberMissing n (s.memberSlot idleCell).settle else s

/-- The TRAILER or ROUND_HEADER marker comes before the last slot at a member (R8): FRAMING_FAULT counts, the missing slots
are handled, and the open region is empty. -/
def State.memberFill (s : State) : State := s.framingFault.memberMissing (s.rx.slotCount - s.rx.slots)

/-- What the framing makes of a message that has arrived whole in the open region (R8). -/
inductive MessageFraming where
  | fault
  | whole
  | notWhole
  deriving DecidableEq, Repr

/-- A body length above 10, or a message beyond OPEN_CAPACITY, is a framing fault (R8).  Words that are not as many as
their header says make no message arrival. -/
def State.frameMessage (m : RxMessage) (s : State) : MessageFraming :=
  if 10 < msgBodyLength m then .fault
  else if msgBodyLength m ≠ m.body.length then .notWhole
  else if s.tracker.params.openCapacity < s.rx.words + msgLength m then .fault
  else .whole

/-- A message counts as received (R9). -/
def RxRound.received (m : RxMessage) (r : RxRound) : RxRound :=
  { r with words := r.words + msgLength m, messages := r.messages + 1 }

/-- The rest of the open region up to the TRAILER marker is discarded (R8). -/
def State.discardRest (s : State) : State := ({ s with rx := { s.rx with phase := .discarding } }).framingFault

/-- A message arrives at a member (R3, R8, R122). -/
def State.memberMessage (m : RxMessage) (s : State) : State :=
  match s.rx.phase with
  | .openRegion =>
    match s.frameMessage m with
    | .fault => s.discardRest
    | .notWhole => s
    | .whole => ({ s with rx := s.rx.received m }).handleMessage m
  | .outside => s.outsideData
  | _ => s

/-! ### The trailer at a member (R8, R9) -/

/-- Step 1 of R9: the received trailer against the node's own counts of the received open region. -/
def State.checkTrailer (w : RxWord) (s : State) : State :=
  if trailerGood w && trailerRoom w == s.tracker.params.openCapacity - s.rx.words && trailerCount w == s.rx.messages then s
  else s.count .trailerMismatch

/-- The trailer arrives at a member (R8, R9).  Outside a round it closes nothing (log entry 13). -/
def State.memberTrailer (w : RxWord) (s : State) : State :=
  match s.rx.phase with
  | .slots => let t := s.memberFill; if t.inRound then (t.checkTrailer w).sendTrailer else t
  | .openRegion => (s.checkTrailer w).sendTrailer
  | .discarding => (s.checkTrailer w).sendTrailer
  | _ => s.endRun

/-- A ROUND_HEADER marker before the trailer of the round in hand finishes that round at once (R8). -/
def State.memberFinish (s : State) : State :=
  match s.rx.phase with
  | .slots => let t := s.memberFill; if t.inRound then t.sendTrailer else t
  | .openRegion => s.framingFault.sendTrailer
  | .discarding => s.framingFault.sendTrailer
  | _ => s

/-! ### The master's carry store (R13) -/

/-- The slots missing from a FILLING round are stored as idle cells (R13). -/
def State.storeMissing (s : State) : State :=
  { s with carry := { s.carry with cells := s.carry.cells ++ List.replicate (s.rx.slotCount - s.rx.slots) idleCell } }

/-- The TRAILER or ROUND_HEADER marker comes before the last slot of a FILLING round (R8, R13): FRAMING_FAULT counts, the
missing slots are stored, and the open region is empty. -/
def State.masterFill (s : State) : State :=
  let t := s.framingFault.storeMissing
  { t with rx := { t.rx with slots := t.rx.slotCount, phase := .openRegion } }

/-- The store becomes COMPLETE. -/
def State.storeComplete (s : State) : State := { s with carry := { s.carry with state := .complete }, rx := {} }

/-- A ROUND_HEADER marker before the trailer of a FILLING round finishes it (R8, R13).  Inside an absorbed round it ends the
absorbing without a fault, and the header behind it is taken as a new one (log entry 16). -/
def State.masterFinish (s : State) : State :=
  match s.rx.phase with
  | .slots => s.masterFill.storeComplete
  | .openRegion => s.framingFault.storeComplete
  | .discarding => s.framingFault.storeComplete
  | _ => { s with rx := {} }

/-- A returning round is taken into the store, FILLING. -/
def State.storeBegin (n : RoundNo) (slotCount : Nat) (s : State) : State :=
  { s with carry := { state := .filling, round := n }, rx := { phase := .slots, slotCount := slotCount } }

/-- A returning header at the master (R13).  The missed-round timer, reset at the marker, is reset again where the header's
last word comes, so a tick between the two does not stand in it (log entry 43). -/
def State.masterHeader (w0 w1 w2 : RxWord) (s : State) : State :=
  let t := { s with tracker := { s.tracker with missed := 0 } }
  let absorbed := { t with rx := { phase := .absorbing } }
  if headerGood w0 w1 w2 then
    if headerRound w0 = t.tracker.round && t.carry.state = .empty then t.storeBegin t.tracker.round (bits w0.value 15 10) else absorbed
  else if t.carry.state = .empty then (t.count .headerCheckFail).storeBegin t.tracker.round t.tracker.params.slotCount
  else absorbed.count .headerCheckFail

/-- A returning cell of a FILLING round is stored (R13). -/
def State.masterCell (c : RxCell) (s : State) : State :=
  match s.rx.phase with
  | .slots => { s with rx := s.rx.nextSlot, carry := { s.carry with cells := s.carry.cells ++ [c] } }
  | _ => s

/-- A returning message of a FILLING round is stored, unless R8 discards it (R13). -/
def State.masterMessage (m : RxMessage) (s : State) : State :=
  match s.rx.phase with
  | .openRegion =>
    match s.frameMessage m with
    | .fault => s.discardRest
    | .notWhole => s
    | .whole => { s with rx := s.rx.received m, carry := { s.carry with messages := s.carry.messages ++ [m] } }
  | _ => s

/-- The returning trailer (R13): a FILLING round becomes COMPLETE; an absorbed one ends. -/
def State.masterTrailer (w : RxWord) (s : State) : State :=
  match s.rx.phase with
  | .slots => (s.masterFill.checkTrailer w).storeComplete
  | .openRegion => (s.checkTrailer w).storeComplete
  | .discarding => (s.checkTrailer w).storeComplete
  | .absorbing => { s with rx := {} }
  | .outside => s

/-! ### Emission (R11, R14 to R16) -/

/-- Slot k at the master: the stored cell is carried (R14) and handled (R57). -/
def State.carrySlot (s : State) : State :=
  if s.tx.active && s.tx.slots < s.tracker.params.slotCount then
    let k := s.tx.slots
    let t := { s with tx := { s.tx with slots := k + 1 } }
    let (c, t) := match s.tx.carryCells[k]? with
      | none => (idleCell, t)
      | some c => t.carryCell c
    t.handleSlot k c
  else s

/-- The carry of the next stored message, which follows the slots (R15). -/
def State.carryMessage (s : State) : State :=
  if s.tx.active && s.tracker.params.slotCount ≤ s.tx.slots then
    match s.tx.carryMessages with
    | [] => s
    | m :: rest => ({ s with tx := { s.tx with carryMessages := rest } }).handleMessage m
  else s

def State.carrySlots : Nat → State → State
  | 0, s => s
  | n + 1, s => if s.inRound then State.carrySlots n s.carrySlot.settle else s

def State.carryMessages : Nat → State → State
  | 0, s => s
  | n + 1, s => if s.inRound then State.carryMessages n s.carryMessage.settle else s

/-- The master's trailer, after the last slot and the last carried message; what of them is still to be carried is
carried first (R11, R15, log entry 15). -/
def State.closeEmission (s : State) : State :=
  if s.tx.active then
    let t := s.carrySlots (s.tracker.params.slotCount - s.tx.slots)
    let t := t.carryMessages t.tx.carryMessages.length
    if t.inRound then t.sendTrailer else t
  else s

/-- The store holds the last emitted round COMPLETE (R14). -/
def State.carryReady (s : State) : Bool := s.carry.state == .complete && s.carry.round == s.tracker.round

/-- A late round (R16): LATE_RETURN, RING_LATE, and what is still to come of a FILLING round is absorbed.  RING_LATE is
raised in either order with the other work of the round start (log entry 32). -/
def State.lateReturn (s : State) : State :=
  let t := (s.count .lateReturn).startLate
  if s.carry.state = .filling && s.rx.phase ≠ .outside then { t with rx := { t.rx with phase := .absorbing, buf := [] } } else t

/-- A round header is emitted: the master's round start (R11). -/
def State.emitHeader (first : Bool) (n : RoundNo) (cells : List RxCell) (msgs : List RxMessage) (s : State) : State :=
  let t := ({ s with
    tracker := { s.tracker with round := n }
    carry := {}
    tx := { active := true, carryCells := cells, carryMessages := msgs } }).emit (buildHeader n s.tracker.params)
  t.blockRoundStart first

/-- The emission of round e + 1 (R11, R14 to R16). -/
def State.emitNext (s : State) : State :=
  let n := s.tracker.round + 1
  if s.carryReady then s.emitHeader false n s.carry.cells s.carry.messages
  else s.lateReturn.emitHeader false n [] []

/-- ROUND_EMISSION: the round in hand is finished first, if it is not (log entry 15). -/
def State.emission (s : State) : State :=
  if s.inRound && s.isMaster then
    let t := s.closeEmission.settle
    if t.inRound && t.isMaster then t.emitNext else t
  else s

/-- The effective master configuration: OPEN_CAPACITY clipped to what the period leaves (R12). -/
def effectiveParams (c : NodeConfig) (nodeCount : Nat) : RoundParams :=
  { period := c.period
    slotCount := c.slotCount
    openCapacity := min c.openCapacity (wordsPerPeriod c.period - 4 - 7 * c.slotCount)
    nodeCount := nodeCount }

/-- The roll-call is complete (R31): node count, master configuration, round 0, IN_ROUND. -/
def State.rollCallComplete (nextId : Nat) (s : State) : State :=
  let t := { s with
    tracker := { s.tracker with params := effectiveParams s.config nextId, round := 0 }
    rx := {} }
  t.enterInRound.emitHeader true 0 [] []

/-! ### Arrivals by tracking state -/

/-- The node sends on every symbol unchanged (R5). -/
def State.transparent (s : State) : Bool := s.tracker.tracking == .isolated || s.tracker.tracking == .unnumbered

/-- The period code of a good header that is seen but is no round start (R4, R5; log entry 11). -/
def State.seePeriod (w0 w1 w2 : RxWord) (s : State) : State :=
  if headerGood w0 w1 w2 then
    { s with tracker := { s.tracker with params := { s.tracker.params with period := (headerParams w0 w1).period } } }
  else s

/-- A ROUND_HEADER marker arrives: in IN_ROUND it resets the missed-round timer (R10, R13), and a round in hand is
finished (R8). -/
def State.headerMarker (s : State) : State :=
  if s.inRound then
    let t := { s with tracker := { s.tracker with missed := 0 } }
    if s.isMaster then t.masterFinish else t.memberFinish
  else s

/-- A TRAILER marker arrives before all SLOT_COUNT cells of the round in hand (R8, R13): what is missing is filled in at the
marker, whether or not the trailer's word follows. -/
def State.trailerMarker (s : State) : State :=
  if s.inRound && s.rx.phase == .slots && s.rx.slots < s.rx.slotCount then (if s.isMaster then s.masterFill else s.memberFill)
  else s

/-- A header at a node in ENUMERATING (R32, R5). -/
def State.enumeratingHeader (w0 w1 w2 : RxWord) (s : State) : State :=
  if !headerGood w0 w1 w2 then s.count .headerCheckFail
  else if s.tracker.phase = .numbered then
    s.enterInRound.memberStart true (headerRound w0) (headerParams w0 w1) (.header w0 w1 w2)
  else (s.seePeriod w0 w1 w2).originateRestart

/-- The three words behind a ROUND_HEADER marker, by tracking state; in ISOLATED and UNNUMBERED they have been sent on
already. -/
def State.headerWords (w0 w1 w2 : RxWord) (s : State) : State :=
  match s.tracker.tracking with
  | .down => s
  | .seeking => (s.seePeriod w0 w1 w2).originateRestart
  | .enumerating => s.enumeratingHeader w0 w1 w2
  | .inRound => if s.isMaster then s.masterHeader w0 w1 w2 else s.memberHeader w0 w1 w2
  | .isolated => s.seePeriod w0 w1 w2
  | .unnumbered => s.seePeriod w0 w1 w2

/-- A whole structure that a transparent node sends on unchanged (R5). -/
def State.passOn (x : TrunkItem) (s : State) : State := if s.transparent then s.emit x else s

/-- A round header arrives: marker and three words. -/
def State.headerArrives (w0 w1 w2 : RxWord) (s : State) : State :=
  (s.passOn (.header w0 w1 w2)).headerMarker.settle.headerWords w0 w1 w2

/-- The seven words of a cell arrive at the IN port. -/
def State.cellArrives (c : RxCell) (s : State) : State :=
  if s.inRound then (if s.isMaster then s.masterCell c else s.memberSlot c) else s.passOn (.cell c)

/-- The words of a message arrive at the IN port. -/
def State.messageArrives (m : RxMessage) (s : State) : State :=
  if s.inRound then (if s.isMaster then s.masterMessage m else s.memberMessage m) else s.passOn (.message m)

/-- A TRAILER marker and its word arrive at the IN port. -/
def State.trailerArrives (w : RxWord) (s : State) : State :=
  if s.inRound then (if s.isMaster then s.masterTrailer w else s.memberTrailer w) else s.passOn (.trailer w)

end Sys2Proof.Machine
end

