-- ==== Sys2Proof/Machine/Election.lean ====
section
/-!
DEFINITION. Restart, election and roll-call (chapter 2): what a node does with a RESTART marker and with an enumeration
frame, by its tracking state.
-/

namespace Sys2Proof.Machine

open Sys2Proof

/-! ### A RESTART or ENUM marker inside a round (R8, R13) -/

/-- A RESTART or ENUM marker arrives.  Inside a round it is a framing fault: a member sends nothing more of the round, and
what still comes of it counts as data outside any structure (log entry 33); at the master the returning round has no more
slots or messages, and the store stays FILLING, or the absorbing ends without a fault (log entry 16).  Outside a round it
ends a run of outside data. -/
def State.markerInside (s : State) : State :=
  if !s.inRound then s
  else
    match s.rx.phase with
    | .outside => s.endRun
    | .absorbing => { s with rx := {} }
    | _ => if s.isMaster then ({ s with rx := {} }).framingFault else ({ s with rx := {}, tx := {} }).framingFault

/-! ### RESTART markers (R23, R26) -/

/-- A RESTART marker in SEEKING or IN_ROUND: another node's is forwarded and takes the node into ENUMERATING, the node's
own is absorbed, and one whose check fails is replaced by a restart of the node's own. -/
def State.restartJoins (w0 w1 w2 : RxWord) (s : State) : State :=
  if !restartGood w0 w1 w2 then (s.count .enumCheckFail).originateRestart
  else if serialOf w0 w1 = s.tracker.serial then s
  else (s.emit (.restart w0 w1 w2)).enterEnumerating

/-- A RESTART marker in ENUMERATING: another node's is forwarded and begins a new attempt. -/
def State.restartRenews (w0 w1 w2 : RxWord) (s : State) : State :=
  if !restartGood w0 w1 w2 then (s.count .enumCheckFail).originateRestart
  else if serialOf w0 w1 = s.tracker.serial then s
  else (s.emit (.restart w0 w1 w2)).beginAttempt

/-- The words behind a RESTART marker, by tracking state (R26).  In ISOLATED and UNNUMBERED the marker has been sent on
already, and it takes the node into ENUMERATING whatever its serial and its check. -/
def State.restartWords (w0 w1 w2 : RxWord) (s : State) : State :=
  match s.tracker.tracking with
  | .down => s
  | .seeking => s.restartJoins w0 w1 w2
  | .enumerating => s.restartRenews w0 w1 w2
  | .inRound => s.restartJoins w0 w1 w2
  | .isolated => s.enterEnumerating
  | .unnumbered => s.enterEnumerating

/-- A RESTART marker with its words arrives. -/
def State.restartArrives (w0 w1 w2 : RxWord) (s : State) : State :=
  (s.passOn (.restart w0 w1 w2)).markerInside.restartWords w0 w1 w2

/-! ### Candidates (R21) -/

/-- The first candidate is better than the second: a lower rank, or an equal rank and a larger serial (R21).  A good
frame's rank is 1 to 3 (R183), and so is that of a node that compares. -/
def betterCandidate (rank : Nat) (serial : Serial) (ownRank : Nat) (own : Serial) : Bool :=
  rank < ownRank || (rank == ownRank && own.toNat < serial.toNat)

/-- The frame's candidate is better than the node. -/
def State.frameBetter (w0 w1 w2 : RxWord) (s : State) : Bool :=
  betterCandidate (frameRank w0) (serialOf w1 w2) s.tracker.rank.toNat s.tracker.serial

/-- A node in CALLING gives up the mastership (R28, R30). -/
def State.giveUpMastership (s : State) : State :=
  if s.tracker.phase = .calling then { s with tracker := { s.tracker with role := .member, nodeId := none, phase := .claiming } } else s

/-! ### CLAIM frames (R28, R29) -/

/-- The node has won the election: node ID 0, MASTER, CALLING, and a ROLL_CALL with the next call number (R29). -/
def State.winElection (s : State) : State :=
  let call := s.tracker.callNo + 1
  ({ s with tracker := { s.tracker with nodeId := some 0, role := .master, phase := .calling, callNo := call } }).emit
    (buildRollCall s.tracker.rank s.tracker.serial call 1)

/-- A good CLAIM frame in ENUMERATING.  The node's rank is looked at before the frame's serial: a node of rank 0 is never a
candidate (R21) and forwards even its own frame (log entry 34). -/
def State.claimFrame (w0 w1 w2 w3 : RxWord) (s : State) : State :=
  if s.tracker.rank = 0 then s.emit (.enumFrame w0 w1 w2 w3)
  else if serialOf w1 w2 = s.tracker.serial then (if s.tracker.phase = .claiming then s.winElection else s)
  else if s.frameBetter w0 w1 w2 then (s.emit (.enumFrame w0 w1 w2 w3)).giveUpMastership
  else s

/-! ### ROLL_CALL frames (R30, R31) -/

/-- The roll-call has overflowed: the node enters UNNUMBERED (R30). -/
def State.enterUnnumbered (s : State) : State :=
  ({ s with tracker := { s.tracker with
      tracking := .unnumbered, nodeId := none, role := .member, phase := .none, enumTimer := 0, failed := 0 } }).raise .unnumbered

/-- A node in CLAIMING or NUMBERED takes its number from the roll-call (R30). -/
def State.takeNumber (w0 w1 w2 w3 : RxWord) (s : State) : State :=
  if frameNextId w0 < 60 then
    ({ s with tracker := { s.tracker with nodeId := some (frameNextId w0), role := .member, phase := .numbered } }).emit
      (forwardRollCall w0 w1 w2)
  else (s.emit (.enumFrame w0 w1 w2 w3)).enterUnnumbered

/-- A good ROLL_CALL frame in ENUMERATING. -/
def State.rollCallFrame (w0 w1 w2 w3 : RxWord) (s : State) : State :=
  if serialOf w1 w2 = s.tracker.serial then
    (if s.tracker.phase = .calling && frameCall w0 == s.tracker.callNo then s.rollCallComplete (frameNextId w0) else s)
  else if s.tracker.phase = .calling then
    (if s.frameBetter w0 w1 w2 then s.giveUpMastership.takeNumber w0 w1 w2 w3 else s)
  else s.takeNumber w0 w1 w2 w3

/-! ### Enumeration frames by tracking state (R23, R33) -/

/-- A good frame in ENUMERATING, by its kind. -/
def State.enumFrameTaken (w0 w1 w2 w3 : RxWord) (s : State) : State :=
  if frameKind w0 = 1 then s.claimFrame w0 w1 w2 w3 else s.rollCallFrame w0 w1 w2 w3

/-- A frame in IN_ROUND (R33): a member forwards another node's and absorbs its own; the master discards both. -/
def State.enumFramePassed (w0 w1 w2 w3 : RxWord) (s : State) : State :=
  if !enumGood w0 w1 w2 w3 then s.count .enumCheckFail
  else if s.isMaster || serialOf w1 w2 == s.tracker.serial then s
  else s.emit (.enumFrame w0 w1 w2 w3)

/-- The words behind an ENUM marker; in ISOLATED and UNNUMBERED they have been sent on already. -/
def State.enumWords (w0 w1 w2 w3 : RxWord) (s : State) : State :=
  match s.tracker.tracking with
  | .down => s
  | .seeking => s.originateRestart
  | .enumerating => if enumGood w0 w1 w2 w3 then s.enumFrameTaken w0 w1 w2 w3 else s.count .enumCheckFail
  | .inRound => s.enumFramePassed w0 w1 w2 w3
  | .isolated => s
  | .unnumbered => s

/-- An ENUM marker with its frame arrives. -/
def State.enumArrives (w0 w1 w2 w3 : RxWord) (s : State) : State :=
  (s.passOn (.enumFrame w0 w1 w2 w3)).markerInside.enumWords w0 w1 w2 w3

end Sys2Proof.Machine
end

