-- ==== Sys2Proof/Machine/Framing.lean ====
section
/-!
DEFINITION. The IN port symbol by symbol: the link and its counts (R1), the OUT port's two transitions (R2), the framing
of symbols into structures (R3, R8), and the tick of the timers (R4).
-/

namespace Sys2Proof.Machine

open Sys2Proof

/-! ### Data words (R3) -/

/-- The words collected so far, one more. -/
def State.push (w : RxWord) (s : State) : State := { s with rx := { s.rx with buf := s.rx.buf ++ [w] } }

/-- The structure is whole: nothing is being collected. -/
def State.collected (s : State) : State := { s with rx := { s.rx with collect := .round, buf := [] } }

/-- The seventh word of a cell completes it. -/
def State.slotWord (w : RxWord) (s : State) : State :=
  match s.rx.buf with
  | [h, a, b, c, d, e] => s.collected.cellArrives { header := h, payload := #v[a, b, c, d, e, w] }
  | _ => s.push w

/-- The body length of the message being collected, so far as its second header word has arrived. -/
def knownBody : List RxWord → Nat
  | _ :: h :: _ => bodyLengthOf h
  | _ => 0

/-- The message whose words are whole. -/
def wordsMessage : List RxWord → Option RxMessage
  | a :: b :: rest =>
    match rest.getLast? with
    | none => none
    | some c => if rest.length = bodyLengthOf b + 1 then some { head0 := a, head1 := b, body := rest.dropLast, check := c } else none
  | _ => none

/-- A word of the open region: a body length above 10 or a message that would go beyond OPEN_CAPACITY discards the rest
(R8); the check word completes the message. -/
def State.openWord (w : RxWord) (s : State) : State :=
  let ws := s.rx.buf ++ [w]
  if 10 < knownBody ws || s.tracker.params.openCapacity < s.rx.words + 3 + knownBody ws then s.collected.discardRest
  else
    match wordsMessage ws with
    | some m => s.collected.messageArrives m
    | none => s.push w

/-- A data word that belongs to no marker's structure, by where the framing of the round stands. -/
def State.roundWord (w : RxWord) (s : State) : State :=
  if !s.inRound then s
  else
    match s.rx.phase with
    | .slots => s.slotWord w
    | .openRegion => s.openWord w
    | .outside => if s.isMaster then s else s.outsideData
    | .discarding => s
    | .absorbing => s

/-- The trailer word, at a node that handles rounds. -/
def State.trailerWord (w : RxWord) (s : State) : State :=
  if s.inRound then (if s.isMaster then s.masterTrailer w else s.memberTrailer w) else s

/-- A data word at the Round Tracker. -/
def State.rxData (w : RxWord) (s : State) : State :=
  match s.rx.collect, s.rx.buf with
  | .round, _ => s.roundWord w
  | .trailer, _ => s.collected.trailerWord w
  | .header, [a, b] => s.collected.headerWords a b w
  | .restart, [a, b] => s.collected.restartWords a b w
  | .enumeration, [a, b, c] => s.collected.enumWords a b c w
  | _, _ => s.push w

/-! ### Markers -/

/-- The words behind a marker are collected from here on. -/
def State.collecting (c : Collect) (s : State) : State := { s with rx := { s.rx with collect := c, buf := [] } }

/-- A marker at the Round Tracker.  It ends a run of data outside any structure, and a structure that it cuts short is
dropped (log entry 14); a TRAILER marker fills in the slots that are missing (R8). -/
def State.rxMarker (m : Marker) (s : State) : State :=
  let t := { s with rx := { s.rx with collect := .round, buf := [], outsideRun := false } }
  match m with
  | .roundHeader => t.headerMarker.settle.collecting .header
  | .trailer => t.trailerMarker.collecting .trailer
  | .restart => t.markerInside.collecting .restart
  | .enumeration => t.markerInside.collecting .enumeration

/-! ### Symbols (R1) -/

/-- A node in ISOLATED or UNNUMBERED sends on every symbol, as its state is when the symbol comes (log entry 47); idle symbols
are not recorded (R5, log entry 5). -/
def State.relay (sym : Symbol) (s : State) : State :=
  if s.transparent && sym != .idle then s.emit (.symbol sym) else s

/-- A symbol handed to the Round Tracker.  One received with a coding error is a data symbol of unknown value. -/
def State.handSymbol (sym : Symbol) (s : State) : State :=
  let t := s.relay sym
  match sym with
  | .idle => t
  | .data w => t.rxData { value := w }
  | .marker m => t.rxMarker m
  | .invalid => ({ t with unknowns := t.unknowns + 1 }).rxData { value := Config.unknownWord t.unknowns, bad := true }

/-- A symbol while TRAINING: good idle symbols count up to 32, any other symbol sets the count to 0. -/
def InPort.train (sym : Symbol) (p : InPort) : InPort :=
  { p with goodIdle := if sym = .idle then min Config.trainingIdles (p.goodIdle + 1) else 0 }

/-- A symbol while UP: the error run, and CODING_ERROR. -/
def State.errorCount (sym : Symbol) (s : State) : State :=
  if sym = .invalid then
    ({ s with inPort := { s.inPort with errorRun := min Config.errorRunLimit (s.inPort.errorRun + 1) } }).count .codingError
  else { s with inPort := { s.inPort with errorRun := 0 } }

/-- A symbol arrives at the IN port (R1). -/
def State.symbolArrives (sym : Symbol) (s : State) : State :=
  match s.inPort.link with
  | .down => s
  | .training => { s with inPort := s.inPort.train sym }
  | .up => (s.errorCount sym).handSymbol sym

/-- Signal is detected on a DOWN link (R1). -/
def State.signalOn (s : State) : State :=
  if s.inPort.link = .down then { s with inPort := { s.inPort with link := .training, goodIdle := 0 } } else s

/-- Loss of signal (R1). -/
def State.signalLost (s : State) : State :=
  match s.inPort.link with
  | .down => s
  | .training => { s with inPort := { s.inPort with link := .down } }
  | .up => s.linkLost

/-! ### The OUT port (R2) -/

/-- RESET# is released: the OUT port enters TRAINING. -/
def State.releaseReset (s : State) : State :=
  { s with resetAsserted := false, outPort := if s.outPort = .down then .training else s.outPort }

/-- The 32 idle symbols of TRAINING have been sent: the OUT port enters UP. -/
def State.outTrained (s : State) : State := if s.outPort = .training then { s with outPort := .up } else s

/-! ### The tick (R4, R20) -/

/-- The timer of the tracking state advances by one tick; every other stands at 0. -/
def Tracker.tick (t : Tracker) : Tracker :=
  match t.tracking with
  | .inRound => { t with missed := min Config.missedRoundLimit (t.missed + 1) }
  | .seeking => { t with seekTimer := min Config.seekLimit (t.seekTimer + 1) }
  | .enumerating => { t with enumTimer := min Config.enumerationLimit (t.enumTimer + 1) }
  | .isolated => { t with retryTimer := min Config.isolationLimit (t.retryTimer + 1) }
  | .down => t
  | .unnumbered => t

/-- A tick. -/
def State.tickOver (s : State) : State := { s with tracker := s.tracker.tick }

end Sys2Proof.Machine
end

