-- ==== Sys2Proof/Machine/ExecEnumeration.lean ====
section
/-!
DEFINITION. The meanings of the commands: timers, RESTART markers and enumeration frames.  Each ends with `State.finish`, which takes the steps that the
command has made due (log entry 1).  What arrives while RESET# is asserted has no effect (log entry 10).
-/

namespace Sys2Proof.Machine

open Sys2Proof

/-- TICK (R4, R20): one nominal round period. -/
def execTick (s : State) : Host.Outcome State Fault Refusal := .next (s.unlessReset State.tickOver).finish

/-- MISSED_ROUND_MEMBER (R10). -/
def execMissedRoundMember (s : State) : Host.Outcome State Fault Refusal := .next (s.runWork .missedRoundMember).finish

/-- MISSED_ROUND_MASTER (R17). -/
def execMissedRoundMaster (s : State) : Host.Outcome State Fault Refusal := .next (s.runWork .missedRoundMaster).finish

/-- SEEK_TIMEOUT (R23). -/
def execSeekTimeout (s : State) : Host.Outcome State Fault Refusal := .next (s.runWork .seekTimeout).finish

/-- ENUMERATION_TIMEOUT (R34). -/
def execEnumerationTimeout (s : State) : Host.Outcome State Fault Refusal := .next (s.runWork .enumerationTimeout).finish

/-- ISOLATION_RETRY (R35). -/
def execIsolationRetry (s : State) : Host.Outcome State Fault Refusal := .next (s.runWork .isolationRetry).finish

/-- RESTART_MARKER_ARRIVAL (R26). -/
def execRestartMarkerArrival (w0 w1 w2 : RxWord) (s : State) : Host.Outcome State Fault Refusal :=
  .next (s.unlessReset (State.restartArrives w0 w1 w2)).finish

/-- CLAIM_FRAME_ARRIVAL (R28, R29, R33). -/
def execClaimFrameArrival (w0 w1 w2 w3 : RxWord) (s : State) : Host.Outcome State Fault Refusal :=
  .next (s.unlessReset (State.enumArrives w0 w1 w2 w3)).finish

/-- ROLL_CALL_ARRIVAL (R30, R31, R33). -/
def execRollCallArrival (w0 w1 w2 w3 : RxWord) (s : State) : Host.Outcome State Fault Refusal :=
  .next (s.unlessReset (State.enumArrives w0 w1 w2 w3)).finish

end Sys2Proof.Machine
end

