-- ==== Sys2Proof/Machine/ExecPort.lean ====
section
/-!
DEFINITION. The meanings of the commands: the Originator and the Tributary Port.  Each ends with `State.finish`, which takes the steps that the
command has made due (log entry 1).
-/

namespace Sys2Proof.Machine

open Sys2Proof

/-- TRANSACTION_TIMEOUT (R170). -/
def execTransactionTimeout (ringTag : Fin 32) (s : State) : Host.Outcome State Fault Refusal := .next (s.runWork (.transactionTimeout ringTag.val)).finish

/-- INSERT_RECORD (R111, R112): a whole Give frame. -/
def execInsertRecord (frame : List Half) (s : State) : Host.Outcome State Fault Refusal := .next (s.giveFrame frame).finish

/-- LOCAL_REQUEST (R165): a whole Give frame. -/
def execLocalRequest (frame : List Half) (s : State) : Host.Outcome State Fault Refusal := .next (s.giveFrame frame).finish

/-- GIVE_FRAME_UNKNOWN (R160): a whole Give frame. -/
def execGiveFrameUnknown (frame : List Half) (s : State) : Host.Outcome State Fault Refusal := .next (s.giveFrame frame).finish

/-- GIVE_FRAME_ABORT (R160): a frame that never becomes whole is discarded without a GIVE_RESULT. -/
def execGiveFrameAbort (_frame : List Half) (s : State) : Host.Outcome State Fault Refusal := .next s.finish

/-- TAKE_FRAME_START (R163). -/
def execTakeFrameStart (s : State) : Host.Outcome State Fault Refusal := .next (s.takeStart).finish

/-- TAKE_FRAME_END (R108, R163). -/
def execTakeFrameEnd (s : State) : Host.Outcome State Fault Refusal := .next (s.takeEnd).finish

end Sys2Proof.Machine
end

