-- ==== Sys2Proof/Machine/ExecResponder.lean ====
section
/-!
DEFINITION. The meanings of the commands: requests answered, commands applied and released.  Each ends with `State.finish`, which takes the steps that the
command has made due (log entry 1).
-/

namespace Sys2Proof.Machine

open Sys2Proof

/-- REQ_READ (R142). -/
def execReqRead (s : State) : Host.Outcome State Fault Refusal := .next (s.runWork (.answer .reqRead)).finish

/-- REQ_SWAP (R156). -/
def execReqSwap (s : State) : Host.Outcome State Fault Refusal := .next (s.runWork (.answer .reqSwap)).finish

/-- CLAIM (R152). -/
def execClaim (s : State) : Host.Outcome State Fault Refusal := .next (s.runWork (.answer .claim)).finish

/-- RENEW (R152). -/
def execRenew (s : State) : Host.Outcome State Fault Refusal := .next (s.runWork (.answer .renew)).finish

/-- RELEASE (R152). -/
def execRelease (s : State) : Host.Outcome State Fault Refusal := .next (s.runWork (.answer .release)).finish

/-- CLAIM_EXPIRED (R153). -/
def execClaimExpired (s : State) : Host.Outcome State Fault Refusal := .next (s.runWork .claimExpired).finish

/-- COMMIT_PLAN (R50). -/
def execCommitPlan (s : State) : Host.Outcome State Fault Refusal := .next (s.runWork (.apply .commitPlan)).finish

/-- CANCEL_COMMIT (R54). -/
def execCancelCommit (s : State) : Host.Outcome State Fault Refusal := .next (s.runWork (.apply .cancelCommit)).finish

/-- START_CONTEXT (R77). -/
def execStartContext (s : State) : Host.Outcome State Fault Refusal := .next (s.runWork (.apply .startContext)).finish

/-- STOP_CONTEXT (R78, R79). -/
def execStopContext (s : State) : Host.Outcome State Fault Refusal := .next (s.runWork (.apply .stopContext)).finish

/-- HALT_CONTEXT (R80). -/
def execHaltContext (s : State) : Host.Outcome State Fault Refusal := .next (s.runWork (.apply .haltContext)).finish

/-- FLUSH_DROP_QUEUE (R109). -/
def execFlushDropQueue (s : State) : Host.Outcome State Fault Refusal := .next (s.runWork (.apply .flushDropQueue)).finish

/-- CLEAR_EVENTS (R148, R178). -/
def execClearEvents (s : State) : Host.Outcome State Fault Refusal := .next (s.runWork (.apply .clearEvents)).finish

/-- CLEAR_COUNTERS, form NODE (R148). -/
def execClearCountersNode (s : State) : Host.Outcome State Fault Refusal := .next (s.runWork (.apply .clearCountersNode)).finish

/-- CLEAR_COUNTERS, form CONTEXT (R148). -/
def execClearCountersContext (s : State) : Host.Outcome State Fault Refusal := .next (s.runWork (.apply .clearCountersContext)).finish

/-- CLEAR_COUNTERS, form ALL (R148). -/
def execClearCountersAll (s : State) : Host.Outcome State Fault Refusal := .next (s.runWork (.apply .clearCountersAll)).finish

/-- TAKE_HOLDER (R154). -/
def execTakeHolder (s : State) : Host.Outcome State Fault Refusal := .next (s.runWork (.apply .takeHolder)).finish

/-- DROP_HOLDER (R154). -/
def execDropHolder (s : State) : Host.Outcome State Fault Refusal := .next (s.runWork (.apply .dropHolder)).finish

/-- RESTART_RING (R149). -/
def execRestartRing (s : State) : Host.Outcome State Fault Refusal := .next (s.runWork (.apply .restartRing)).finish

/-- RESTART_RING_RELEASE (R27, R149). -/
def execRestartRingRelease (s : State) : Host.Outcome State Fault Refusal := .next (s.runWork .restartRelease).finish

/-- NODE_RESET (R149). -/
def execNodeReset (s : State) : Host.Outcome State Fault Refusal := .next (s.runWork (.apply .nodeReset)).finish

/-- SOFT_RESET (R158). -/
def execSoftReset (s : State) : Host.Outcome State Fault Refusal := .next (s.runWork .softReset).finish

end Sys2Proof.Machine
end

