-- ==== Sys2Proof/Machine/ExecRounds.lean ====
section
/-!
DEFINITION. The meanings of the commands: rounds, slots and messages.  Each ends with `State.finish`, which takes the steps that the
command has made due (log entry 1).  What arrives while RESET# is asserted has no effect (log entry 10).
-/

namespace Sys2Proof.Machine

open Sys2Proof

/-- ROUND_HEADER_ARRIVAL (R6, R7, R32): a round header at the IN port. -/
def execRoundHeaderArrival (w0 w1 w2 : RxWord) (s : State) : Host.Outcome State Fault Refusal :=
  .next (s.unlessReset (State.headerArrives w0 w1 w2)).finish

/-- ROUND_EMISSION (R11): the master emits the next round header. -/
def execRoundEmission (s : State) : Host.Outcome State Fault Refusal := .next (s.unlessReset State.emission).finish

/-- RETURNING_HEADER_ARRIVAL (R13): a round header at the IN port. -/
def execReturningHeaderArrival (w0 w1 w2 : RxWord) (s : State) : Host.Outcome State Fault Refusal :=
  .next (s.unlessReset (State.headerArrives w0 w1 w2)).finish

/-- RETURNING_CELL_ARRIVAL (R13): a cell at the IN port. -/
def execReturningCellArrival (cell : RxCell) (s : State) : Host.Outcome State Fault Refusal :=
  .next (s.unlessReset (State.cellArrives cell)).finish

/-- RETURNING_MESSAGE_ARRIVAL (R13): a message at the IN port. -/
def execReturningMessageArrival (msg : RxMessage) (s : State) : Host.Outcome State Fault Refusal :=
  .next (s.unlessReset (State.messageArrives msg)).finish

/-- RETURNING_TRAILER_ARRIVAL (R13): a trailer at the IN port. -/
def execReturningTrailerArrival (w : RxWord) (s : State) : Host.Outcome State Fault Refusal :=
  .next (s.unlessReset (State.trailerArrives w)).finish

/-- COMMIT_APPLIED (R51, R52). -/
def execCommitApplied (s : State) : Host.Outcome State Fault Refusal := .next (s.runWork .commitApplied).finish

/-- SLOT_EVENT (R57): at a member the received cell; at the master the carry of the next slot, whose cell stands in the
round being emitted. -/
def execSlotEvent (cell : RxCell) (s : State) : Host.Outcome State Fault Refusal :=
  .next (s.unlessReset (fun s => if s.inRound && s.isMaster then s.carrySlot else s.cellArrives cell)).finish

/-- INSERT_DRAINED (R91). -/
def execInsertDrained (ctx : Fin 16) (s : State) : Host.Outcome State Fault Refusal := .next (s.runWork (.insertDrained ctx)).finish

/-- STALE_ASSEMBLY (R89). -/
def execStaleAssembly (ctx : Fin 16) (s : State) : Host.Outcome State Fault Refusal := .next (s.runWork (.staleAssembly ctx)).finish

/-- CONTEXT_RESUME (R93). -/
def execContextResume (s : State) : Host.Outcome State Fault Refusal := .next (s.runWork .contextResume).finish

/-- MESSAGE_ARRIVAL (R122): at a member the received message; at the master the carry of the next stored message (R15). -/
def execMessageArrival (msg : RxMessage) (s : State) : Host.Outcome State Fault Refusal :=
  .next (s.unlessReset (fun s => if s.inRound && s.isMaster then s.carryMessage else s.messageArrives msg)).finish

/-- TRAILER_ARRIVAL (R9): at a member the received trailer; at the master the end of the round being emitted (R11). -/
def execTrailerArrival (w : RxWord) (s : State) : Host.Outcome State Fault Refusal :=
  .next (s.unlessReset (fun s => if s.inRound && s.isMaster then s.closeEmission else s.trailerArrives w)).finish

end Sys2Proof.Machine
end

