-- ==== Sys2Proof/Machine/ExecTrunk.lean ====
section
/-!
DEFINITION. The meanings of the commands: resets, ports and link.  Each ends with `State.finish`, which takes the steps that the
command has made due (log entry 1).  What arrives while RESET# is asserted has no effect (log entry 10).
-/

namespace Sys2Proof.Machine

open Sys2Proof

/-- HARD_RESET (R1, R2, R4, R20, R21, R172): RESET# is asserted, or power comes on, with the straps as sampled. -/
def execHardReset (mrank : BitVec 2) (s : State) : Host.Outcome State Fault Refusal := .next (s.hardReset mrank).finish

/-- RESET_RELEASE (R2). -/
def execResetRelease (s : State) : Host.Outcome State Fault Refusal := .next (s.releaseReset).finish

/-- OUT_PORT_UP (R2). -/
def execOutPortUp (s : State) : Host.Outcome State Fault Refusal := .next (s.outTrained).finish

/-- SIGNAL_DETECTED (R1). -/
def execSignalDetected (s : State) : Host.Outcome State Fault Refusal := .next (s.unlessReset State.signalOn).finish

/-- SYMBOL_RECEIVED (R1). -/
def execSymbolReceived (sym : Symbol) (s : State) : Host.Outcome State Fault Refusal :=
  .next (s.unlessReset (State.symbolArrives sym)).finish

/-- LINK_UP (R1): the good-idle count has reached 32. -/
def execLinkUp (s : State) : Host.Outcome State Fault Refusal := .next (s.runWork .linkUp).finish

/-- ERROR_RUN_LIMIT (R1): the error run has reached 16. -/
def execErrorRunLimit (s : State) : Host.Outcome State Fault Refusal := .next (s.runWork .errorRunLimit).finish

/-- LOSS_OF_SIGNAL (R1). -/
def execLossOfSignal (s : State) : Host.Outcome State Fault Refusal := .next (s.unlessReset State.signalLost).finish

end Sys2Proof.Machine
end

