-- ==== Sys2Proof/Machine/ExecWrites.lean ====
section
/-!
DEFINITION. The meanings of the commands: writes applied, and the reminder.  Each ends with `State.finish`, which takes the steps that the
command has made due (log entry 1).
-/

namespace Sys2Proof.Machine

open Sys2Proof

/-- A write to PLAN_A, PLAN_B or ROTATION (R46, R47). -/
def execWritePlanEdit (s : State) : Host.Outcome State Fault Refusal := .next (s.runWork (.apply .writePlanEdit)).finish

/-- A write to CONTEXTS (R75, R100). -/
def execWriteContextConfig (s : State) : Host.Outcome State Fault Refusal := .next (s.runWork (.apply .writeContextConfig)).finish

/-- A write to FILTERS (R102). -/
def execWriteFilters (s : State) : Host.Outcome State Fault Refusal := .next (s.runWork (.apply .writeFilters)).finish

/-- A write of NODE_CONFIG from word 0 (R175). -/
def execWriteNoticeTarget (s : State) : Host.Outcome State Fault Refusal := .next (s.runWork (.apply .writeNoticeTarget)).finish

/-- A write of NODE_CONFIG from word 1 (R175). -/
def execWriteEnableSet (s : State) : Host.Outcome State Fault Refusal := .next (s.runWork (.apply .writeEnableSet)).finish

/-- A write of NODE_CONFIG from word 2 (R121). -/
def execWriteGroupMembership (s : State) : Host.Outcome State Fault Refusal := .next (s.runWork (.apply .writeGroupMembership)).finish

/-- A write of NODE_CONFIG from word 3 (R107). -/
def execWriteDropThreshold (s : State) : Host.Outcome State Fault Refusal := .next (s.runWork (.apply .writeDropThreshold)).finish

/-- Any other write (R138, R139, R145). -/
def execWriteRegister (s : State) : Host.Outcome State Fault Refusal := .next (s.runWork (.apply .writeRegister)).finish

/-- NOTICE_REMINDER (R176). -/
def execNoticeReminder (s : State) : Host.Outcome State Fault Refusal := .next (s.runWork .noticeReminder).finish

end Sys2Proof.Machine
end

