-- ==== Sys2Proof/Machine/Dispatch.lean ====
section
/-! DEFINITION. One arm per command, each a direct call of its meaning. -/

namespace Sys2Proof.Machine

open Sys2Proof

def exec (i : Instr) (s : State) : Host.Outcome State Fault Refusal :=
  match i with
  | .hardReset mrank => Sys2Proof.Machine.execHardReset mrank s
  | .resetRelease => Sys2Proof.Machine.execResetRelease s
  | .outPortUp => Sys2Proof.Machine.execOutPortUp s
  | .signalDetected => Sys2Proof.Machine.execSignalDetected s
  | .symbolReceived sym => Sys2Proof.Machine.execSymbolReceived sym s
  | .linkUp => Sys2Proof.Machine.execLinkUp s
  | .errorRunLimit => Sys2Proof.Machine.execErrorRunLimit s
  | .lossOfSignal => Sys2Proof.Machine.execLossOfSignal s
  | .tick => Sys2Proof.Machine.execTick s
  | .missedRoundMember => Sys2Proof.Machine.execMissedRoundMember s
  | .missedRoundMaster => Sys2Proof.Machine.execMissedRoundMaster s
  | .seekTimeout => Sys2Proof.Machine.execSeekTimeout s
  | .enumerationTimeout => Sys2Proof.Machine.execEnumerationTimeout s
  | .isolationRetry => Sys2Proof.Machine.execIsolationRetry s
  | .restartMarkerArrival w0 w1 w2 => Sys2Proof.Machine.execRestartMarkerArrival w0 w1 w2 s
  | .claimFrameArrival w0 w1 w2 w3 => Sys2Proof.Machine.execClaimFrameArrival w0 w1 w2 w3 s
  | .rollCallArrival w0 w1 w2 w3 => Sys2Proof.Machine.execRollCallArrival w0 w1 w2 w3 s
  | .roundHeaderArrival w0 w1 w2 => Sys2Proof.Machine.execRoundHeaderArrival w0 w1 w2 s
  | .roundEmission => Sys2Proof.Machine.execRoundEmission s
  | .returningHeaderArrival w0 w1 w2 => Sys2Proof.Machine.execReturningHeaderArrival w0 w1 w2 s
  | .returningCellArrival cell => Sys2Proof.Machine.execReturningCellArrival cell s
  | .returningMessageArrival msg => Sys2Proof.Machine.execReturningMessageArrival msg s
  | .returningTrailerArrival w => Sys2Proof.Machine.execReturningTrailerArrival w s
  | .commitApplied => Sys2Proof.Machine.execCommitApplied s
  | .slotEvent cell => Sys2Proof.Machine.execSlotEvent cell s
  | .insertDrained ctx => Sys2Proof.Machine.execInsertDrained ctx s
  | .staleAssembly ctx => Sys2Proof.Machine.execStaleAssembly ctx s
  | .contextResume => Sys2Proof.Machine.execContextResume s
  | .messageArrival msg => Sys2Proof.Machine.execMessageArrival msg s
  | .trailerArrival w => Sys2Proof.Machine.execTrailerArrival w s
  | .transactionTimeout ringTag => Sys2Proof.Machine.execTransactionTimeout ringTag s
  | .reqRead => Sys2Proof.Machine.execReqRead s
  | .reqSwap => Sys2Proof.Machine.execReqSwap s
  | .claim => Sys2Proof.Machine.execClaim s
  | .renew => Sys2Proof.Machine.execRenew s
  | .release => Sys2Proof.Machine.execRelease s
  | .claimExpired => Sys2Proof.Machine.execClaimExpired s
  | .commitPlan => Sys2Proof.Machine.execCommitPlan s
  | .cancelCommit => Sys2Proof.Machine.execCancelCommit s
  | .startContext => Sys2Proof.Machine.execStartContext s
  | .stopContext => Sys2Proof.Machine.execStopContext s
  | .haltContext => Sys2Proof.Machine.execHaltContext s
  | .flushDropQueue => Sys2Proof.Machine.execFlushDropQueue s
  | .clearEvents => Sys2Proof.Machine.execClearEvents s
  | .clearCountersNode => Sys2Proof.Machine.execClearCountersNode s
  | .clearCountersContext => Sys2Proof.Machine.execClearCountersContext s
  | .clearCountersAll => Sys2Proof.Machine.execClearCountersAll s
  | .takeHolder => Sys2Proof.Machine.execTakeHolder s
  | .dropHolder => Sys2Proof.Machine.execDropHolder s
  | .restartRing => Sys2Proof.Machine.execRestartRing s
  | .restartRingRelease => Sys2Proof.Machine.execRestartRingRelease s
  | .nodeReset => Sys2Proof.Machine.execNodeReset s
  | .softReset => Sys2Proof.Machine.execSoftReset s
  | .writePlanEdit => Sys2Proof.Machine.execWritePlanEdit s
  | .writeContextConfig => Sys2Proof.Machine.execWriteContextConfig s
  | .writeFilters => Sys2Proof.Machine.execWriteFilters s
  | .writeNoticeTarget => Sys2Proof.Machine.execWriteNoticeTarget s
  | .writeEnableSet => Sys2Proof.Machine.execWriteEnableSet s
  | .writeGroupMembership => Sys2Proof.Machine.execWriteGroupMembership s
  | .writeDropThreshold => Sys2Proof.Machine.execWriteDropThreshold s
  | .writeRegister => Sys2Proof.Machine.execWriteRegister s
  | .noticeReminder => Sys2Proof.Machine.execNoticeReminder s
  | .insertRecord frame => Sys2Proof.Machine.execInsertRecord frame s
  | .localRequest frame => Sys2Proof.Machine.execLocalRequest frame s
  | .giveFrameUnknown frame => Sys2Proof.Machine.execGiveFrameUnknown frame s
  | .giveFrameAbort frame => Sys2Proof.Machine.execGiveFrameAbort frame s
  | .takeFrameStart => Sys2Proof.Machine.execTakeFrameStart s
  | .takeFrameEnd => Sys2Proof.Machine.execTakeFrameEnd s

end Sys2Proof.Machine
end

