-- ==== Sys2Proof/Safety.lean ====
section
/-!
DEFINITION. What counts as a safe machine, in the terms the statements use: the limits the spec states for every store,
the legal values of the plan tables and of the tracker, what a ring restart does, and the shapes of a request at the
front of the work queue.
-/

namespace Sys2Proof.Machine

open Sys2Proof

/-! ### The limits of the stores -/

/-- No store ever holds more than the spec's limit. -/
structure State.Limits (s : State) : Prop where
  /-- The edit list holds at most 16 entries (R47). -/
  edits : s.plan.edits.length ≤ 16
  /-- Never two edits with the same target (R47). -/
  targets : (s.plan.edits.map Edit.target).Nodup
  /-- The Drop Queue never holds more than 64 records (R105). -/
  dropRecords : s.drop.records.length ≤ 64
  /-- Nor more than 8192 bytes (R105). -/
  dropBytes : dropOccupancy s.drop ≤ 8192
  /-- No context's insert queue holds more than 4 records (R110). -/
  queues : ∀ c ∈ s.contexts.toList, c.queue.length ≤ 4
  /-- The insert pool's charges never exceed 4096 bytes (R110). -/
  pool : s.poolOccupancy ≤ 4096
  /-- The work queue holds at most 4 entries (R144). -/
  work : s.responder.work.length ≤ 4
  /-- The reply queue has at most 3 places filled or reserved (R144). -/
  replies : s.responder.replies.length + s.responder.reserved ≤ 3
  /-- The Originator table holds at most 4 entries (R144). -/
  table : s.originator.length ≤ 4
  /-- No two entries share a ring tag (R144). -/
  tags : (s.originator.map OrigEntry.tag).Nodup
  /-- Up to 4 GIVE_RESULTs wait (R161). -/
  results : s.port.giveResults.length ≤ 4
  /-- The Take side holds 8 completion places, filled or reserved (R164). -/
  completions : s.port.completions.length + s.reservedCompletions ≤ 8

/-! ### Legal plan tables -/

/-- A rotation record that R40 lets be stored. -/
def Rotation.Legal (r : Rotation) : Prop := 1 ≤ r.length ∧ r.length ≤ 12

/-- An edit that the Plan Store's check lets into the list (R46). -/
def Edit.Legal : Edit → Prop
  | .slot _ _ _ => True
  | .bankDefault _ e => e ≠ .follow
  | .rotation r => r.Legal

/-- No bank default is FOLLOW (R39), the rotation's length is 1..12 (R40), and what is staged would keep it so. -/
structure PlanStore.Legal (p : PlanStore) : Prop where
  defaultA : p.bankA.dflt ≠ .follow
  defaultB : p.bankB.dflt ≠ .follow
  rotation : p.rotation.Legal
  edits : ∀ e ∈ p.edits, e.Legal

/-- A round plan whose resolved entries are never FOLLOW (R39). -/
def RoundPlan.Resolved (p : RoundPlan) : Prop := ∀ e ∈ p.actions, e ≠ .follow

/-- The plan tables are legal and the round plan in hand is resolved. -/
def State.PlanLegal (s : State) : Prop := s.plan.Legal ∧ ∀ p, s.plan.roundPlan = some p → p.Resolved

/-! ### Legal tracker -/

/-- The tracker's fields agree with its tracking state (R4, R20, R22, R25, R30, R34): each timer stands at 0 outside its
own state and within its range in it, the failed attempts stay below the four that isolate until they have isolated, the
phase is none exactly outside ENUMERATING, a node ID is 0..59, and none is held in DOWN, SEEKING, CLAIMING, ISOLATED or
UNNUMBERED; and a node of rank 0 is never MASTER, nor in CALLING (R21). -/
structure Tracker.Legal (t : Tracker) : Prop where
  missed : t.tracking ≠ .inRound → t.missed = 0
  missedRange : t.missed ≤ 3
  seek : t.tracking ≠ .seeking → t.seekTimer = 0
  seekRange : t.seekTimer ≤ 32
  enumeration : t.tracking ≠ .enumerating → t.enumTimer = 0
  enumerationRange : t.enumTimer ≤ 32
  retry : t.tracking ≠ .isolated → t.retryTimer = 0
  retryRange : t.retryTimer ≤ 4096
  phase : t.phase = .none ↔ t.tracking ≠ .enumerating
  failed : t.failed ≤ 4 ∧ (t.tracking ≠ .isolated → t.failed ≤ 3)
  idRange : ∀ id, t.nodeId = some id → id ≤ 59
  noId : t.tracking = .down ∨ t.tracking = .seeking ∨ t.tracking = .isolated ∨ t.tracking = .unnumbered ∨ t.phase = .claiming →
    t.nodeId = none
  master : t.role = .master ∨ t.phase = .calling → t.rank ≠ 0

/-- The tracker is legal, and it is DOWN exactly while the input link is not UP (R1, R22). -/
def State.TrackerLegal (s : State) : Prop := (s.tracker.tracking = .down ↔ s.inPort.link ≠ .up) ∧ s.tracker.Legal

/-! ### A ring restart handed to the blocks -/

/-- What a ring restart leaves at the blocks other than the Round Tracker (R19, R92, R115, R136, R157, R170, R179): `t`
against `s`.  The order of the ABANDONED completions (log entry 21), and that the words of a structure whose marker has come are kept
(log entry 47), are the model's choice.  A RUNNING or DRAINING context is HELD with that as its resume state, a drop-side one giving up its record and its
sequence with resync pending, an insert-side one beginning its head record anew (R92).  The replies are given up, those that mark
a NODE_RESET leaving it to be performed (R150, R157).  The Plan Store's own handling (R55) and the work-queue entries (R157) are
due in `t`. -/
structure RingRestarted (s t : State) : Prop where
  carry : t.carry = {}
  sending : t.tx = {}
  receiving : t.rx = if s.rx.collect = .round then {} else { collect := s.rx.collect, buf := s.rx.buf }
  liveA : t.plan.bankA = s.plan.bankA
  liveB : t.plan.bankB = s.plan.bankB
  rotation : t.plan.rotation = s.plan.rotation
  edits : t.plan.edits = s.plan.edits
  commit : t.plan.commit = s.plan.commit
  commitDue : t.plan.commitDue = s.plan.commitDue
  roundPlan : t.plan.roundPlan = s.plan.roundPlan
  planDue : t.plan.restartDue = true
  contexts : t.contexts = s.contexts.map fun c =>
    if c.state = .running then
      if c.config.direction = .insertSide then { c with state := .held, resume := .running, cellsSent := 0 }
      else { c with state := .held, resume := .running, assembly := none, seq := none, resync := true }
    else if c.state = .draining then { c with state := .held, resume := .draining, cellsSent := 0 }
    else c
  filters : t.filters = s.filters
  drop : t.drop = s.drop
  claim : t.responder.claim = {}
  replies : t.responder.replies = []
  work : t.responder.work = s.responder.work.map fun e => { e with place := false }
  workDue : t.responder.applyDue = s.responder.work.length
  answering : t.responder.answering = s.responder.answering.map fun e => { e with place := false }
  releases : t.responder.releases =
    s.responder.releases ++ (s.responder.replies.filter fun r => r.mark = some .nodeReset).map fun _ => Release.nodeReset
  holder : t.responder.holder = s.responder.holder
  alloc : t.responder.alloc = s.responder.alloc
  capture : t.responder.capture = s.responder.capture
  overrun : t.responder.overrun = s.responder.overrun
  config : t.config = s.config
  table : t.originator = []
  abandoned : t.port.completions = s.port.completions ++ s.originator.map fun e => { ref := e.ref, status := 24, body := [] }
  results : t.port.giveResults = s.port.giveResults
  notice : t.port.notice = s.port.notice
  transfer : t.port.transfer = s.port.transfer
  stalled : t.port.stalled = s.port.stalled
  lane : t.port.lane = s.port.lane
  outPort : t.outPort = s.outPort
  pin : t.resetAsserted = s.resetAsserted
  unknowns : t.unknowns = s.unknowns
  choice : t.choice = s.choice
  pending : t.pending = s.pending

/-- The tracker right after a node has entered ENUMERATING and begun an attempt (R25), its failed-attempt count apart. -/
def Tracker.attempt (t : Tracker) (failed : Nat) : Tracker :=
  { t with
    tracking := .enumerating, phase := .claiming, nodeId := none, role := .member, missed := 0, enumTimer := 0
    seekTimer := 0, retryTimer := 0, failed := failed }

/-- What a node of the given state sends when it originates a restart and begins an attempt (R24, R25): its RESTART
marker, and its CLAIM unless its rank is 0. -/
def originated (t : Tracker) : List TrunkItem :=
  buildRestart t.serial :: if t.rank = 0 then [] else [buildClaim t.rank t.serial]

/-- What has been sent in addition, while the OUT port is UP (R2). -/
def State.Sent (s t : State) (items : List TrunkItem) : Prop :=
  t.line = if s.outPort = .up then s.line ++ items else s.line

/-! ### A round start handed to the blocks -/

/-- What the round start of round n leaves at the blocks (R6, R11): the round plan built from the live tables, and the
pending commit due where its target is no longer ahead of n, or where it was to be taken at the next start (R42, R50, R51);
the record in assembly of a RUNNING drop-side context one older, up to 64 (R89); the lease one less and every entry of the work
queue due (R144, R153), with fresh allocation words at a holder's first round start of an epoch (R155); the rounds remaining of
every SENT entry one less (R170); and the Event unit's work due (R176).  Every block's other state is kept. -/
structure RoundStarted (s t : State) (n : RoundNo) (slotCount : Nat) (first : Bool) : Prop where
  plan : t.plan =
    { s.plan with
      commitDue :=
        match s.plan.commit with
        | .none => false
        | .atTarget target => !(1 ≤ (target - n).toNat && (target - n).toNat ≤ 32767)
        | .nextStart _ => true
      roundPlan := some (s.plan.build n slotCount) }
  contexts : t.contexts = s.contexts.map fun c =>
    if c.state = .running ∧ c.config.direction = .dropSide then
      { c with assembly := c.assembly.map fun a => { a with age := min 64 (a.age + 1) } }
    else c
  responder : t.responder =
    { s.responder with
      claim := if s.responder.claim.holder.isSome then { s.responder.claim with lease := s.responder.claim.lease - 1 } else s.responder.claim
      applyDue := s.responder.work.length
      alloc := if first && s.responder.holder then #v[BitVec.ofNat 32 slotCount, 0, 0, 0, 0] else s.responder.alloc }
  table : t.originator = s.originator.map fun e => if e.sent then { e with remaining := e.remaining - 1 } else e
  filters : t.filters = s.filters
  drop : t.drop = s.drop
  config : t.config = s.config
  port : t.port = s.port
  inPort : t.inPort = s.inPort
  outPort : t.outPort = s.outPort
  pin : t.resetAsserted = s.resetAsserted
  unknowns : t.unknowns = s.unknowns
  choice : t.choice = s.choice
  pending : t.pending = s.pending

/-- The machine with the missed-round timer at 0, as a ROUND_HEADER marker leaves it (R10, R13). -/
def State.heard (s : State) : State := { s with tracker := { s.tracker with missed := 0 } }

/-- A round is in hand: its header has come and its trailer has not. -/
def State.InsideRound (s : State) : Prop := s.rx.phase = .slots ∨ s.rx.phase = .openRegion ∨ s.rx.phase = .discarding

/-- A node out of RESET# and IN_ROUND, with the role MEMBER. -/
def State.IsMemberInRound (s : State) : Prop :=
  s.resetAsserted = false ∧ s.tracker.tracking = .inRound ∧ s.tracker.role = .member

/-- A node out of RESET# and IN_ROUND, with the role MASTER. -/
def State.IsMasterInRound (s : State) : Prop :=
  s.resetAsserted = false ∧ s.tracker.tracking = .inRound ∧ s.tracker.role = .master

/-- A node out of RESET# in ISOLATED or UNNUMBERED, which sends on every symbol it receives (R5). -/
def State.IsTransparent (s : State) : Prop :=
  s.resetAsserted = false ∧ (s.tracker.tracking = .isolated ∨ s.tracker.tracking = .unnumbered)

/-- The line after one more structure, which is sent only while the OUT port is UP (R2). -/
def State.lineWith (s : State) (items : List TrunkItem) : List TrunkItem := if s.outPort = .up then s.line ++ items else s.line

/-- The machine with a message of so many words sent into the open region and counted (R132). -/
def State.messageSent (s : State) (m : RxMessage) : State :=
  { s with
    tx := { s.tx with words := s.tx.words + (3 + m.body.length), messages := s.tx.messages + 1 }
    line := s.lineWith [.message m] }

/-! ### Symbols at an UP link -/

/-- The symbol `sym` at the machine's UP link hands the word `w` on as data, over the state `u` (R1): a data symbol sets the
error run to 0; a symbol received with a coding error counts CODING_ERROR and the error run, and its word's value is free (log
entry 6).  In ISOLATED and UNNUMBERED the symbol has been sent on (R5). -/
def State.HandsWord (s : State) (sym : Symbol) (w : RxWord) (u : State) : Prop :=
  s.resetAsserted = false ∧ s.inPort.link = .up ∧
    ∃ line : List TrunkItem,
      line = (if s.tracker.tracking = .isolated ∨ s.tracker.tracking = .unnumbered then s.lineWith [.symbol sym] else s.line) ∧
      ((∃ v : Word, sym = .data v ∧ w = { value := v } ∧
          u = { s with inPort := { s.inPort with errorRun := 0 }, line := line }) ∨
        (sym = .invalid ∧ w = { value := Config.unknownWord s.unknowns, bad := true } ∧
          u = { s with
            inPort := { s.inPort with errorRun := min 16 (s.inPort.errorRun + 1) }
            counters := (s.count .codingError).counters
            unknowns := s.unknowns + 1
            line := line }))

/-- The machine with the words collected behind a marker, or of a cell or message, taken out. -/
def State.taken (s : State) : State := { s with rx := { s.rx with collect := .round, buf := [] } }

/-! ### Requests at the front of the work queue -/

/-- The work-queue entry e is at the front, with rest behind it, and is to be applied now (R144). -/
def State.HeadDue (s : State) (e : WorkEntry) (rest : List WorkEntry) : Prop :=
  s.responder.work = e :: rest ∧ 0 < s.responder.applyDue

/-- The entry is a command of this code (9.4). -/
def WorkEntry.IsCommand (e : WorkEntry) (code : Nat) : Prop := e.kind = .command ∧ reqCommand e.body = code

/-- The machine with the front entry taken off the work queue. -/
def State.popped (s : State) (rest : List WorkEntry) : State :=
  { s with responder := { s.responder with work := rest, applyDue := s.responder.applyDue - 1 } }

/-- The request e is the one that waits for its answer, with rest behind it. -/
def State.AnswerDue (s : State) (e : WorkEntry) (rest : List WorkEntry) : Prop := s.responder.answering = e :: rest

/-- The machine with that request taken off. -/
def State.unanswered (s : State) (rest : List WorkEntry) : State :=
  { s with responder := { s.responder with answering := rest } }

/-- The machine with that request taken off and a claim command's outcome handed over: the claim as the command leaves it,
and a reply body of its holder (127 for FREE) and its lease remaining (R152); of a command that came by group there is no reply,
and a refusal is recorded (R147). -/
def State.claimAnswered (s : State) (e : WorkEntry) (rest : List WorkEntry) (st : Status) (c : ClaimRecord) : State :=
  let t : State := { s.unanswered rest with responder := { (s.unanswered rest).responder with claim := c } }
  if e.origin = .group then (if st = .ok then t else t.recordFailure e 0 st)
  else State.fillReply e st [field 31 24 (c.holder.getD 127) ||| field 15 0 c.lease] none t

/-- The command `i` answers the request in front by its row, with the state `x`; so does a group message's own turn, which
answers at once where this is the one request that waits (R128 to R130, log entry 41). -/
def State.Answers (s : State) (i : Instr) (row : AnswerRow) (x : State) : Prop :=
  exec i s = .next x.finish ∧ s.answerHead row = x ∧ (s.responder.answering.length = 1 → s.answerAll = x)

/-- An entry applied with a status and a reply body, over the state that it leaves: no release, no failure index. -/
def State.applied (t : State) (e : WorkEntry) (st : Status) (body : List Word) : State := State.report e (st, body, 0, none, t)

/-- The entry is a CLEAR_COUNTERS of this form (R148). -/
def WorkEntry.IsClear (e : WorkEntry) (form : Nat) : Prop := e.IsCommand 11 ∧ reqForm e.body = form

end Sys2Proof.Machine
end

