-- ==== Sys2Proof/WellFormed.lean ====
section
/-!
DEFINITION. Well-formed commands: an operand is what its row says it is.

The machine does not lean on it.  A structure may arrive damaged in any way, and the receiver judges it; what is checked
here is that the operand has the shape that makes it this row's command and not another's.
-/

namespace Sys2Proof

open Machine

/-- A message's words are as many as its second header word says (R3). -/
def messageWhole (m : RxMessage) : Bool := m.body.length == msgBodyLength m

/-- A Give frame whose header word is whole and carries this kind code (R160). -/
def frameOfKind (k : Nat) (f : List Half) : Bool := !frameShort f && giveKind f == k

/-- A Give frame of a kind code that is neither INSERT_RECORD nor LOCAL_REQUEST (R160). -/
def frameOfUnknownKind (f : List Half) : Bool := !frameShort f && giveKind f != 1 && giveKind f != 2

/-- The checks, one for each row whose operand could be another row's. -/
def Instr.wellFormed : Instr → Bool
  | .claimFrameArrival w0 _ _ _ => frameKind w0 != 2
  | .rollCallArrival w0 _ _ _ => frameKind w0 == 2
  | .returningMessageArrival msg => messageWhole msg
  | .messageArrival msg => messageWhole msg
  | .insertRecord frame => frameOfKind 1 frame
  | .localRequest frame => frameOfKind 2 frame
  | .giveFrameUnknown frame => frameOfUnknownKind frame
  | .hardReset _ => true
  | .resetRelease => true
  | .outPortUp => true
  | .signalDetected => true
  | .symbolReceived _ => true
  | .linkUp => true
  | .errorRunLimit => true
  | .lossOfSignal => true
  | .tick => true
  | .missedRoundMember => true
  | .missedRoundMaster => true
  | .seekTimeout => true
  | .enumerationTimeout => true
  | .isolationRetry => true
  | .restartMarkerArrival _ _ _ => true
  | .roundHeaderArrival _ _ _ => true
  | .roundEmission => true
  | .returningHeaderArrival _ _ _ => true
  | .returningCellArrival _ => true
  | .returningTrailerArrival _ => true
  | .commitApplied => true
  | .slotEvent _ => true
  | .insertDrained _ => true
  | .staleAssembly _ => true
  | .contextResume => true
  | .trailerArrival _ => true
  | .transactionTimeout _ => true
  | .reqRead => true
  | .reqSwap => true
  | .claim => true
  | .renew => true
  | .release => true
  | .claimExpired => true
  | .commitPlan => true
  | .cancelCommit => true
  | .startContext => true
  | .stopContext => true
  | .haltContext => true
  | .flushDropQueue => true
  | .clearEvents => true
  | .clearCountersNode => true
  | .clearCountersContext => true
  | .clearCountersAll => true
  | .takeHolder => true
  | .dropHolder => true
  | .restartRing => true
  | .restartRingRelease => true
  | .nodeReset => true
  | .softReset => true
  | .writePlanEdit => true
  | .writeContextConfig => true
  | .writeFilters => true
  | .writeNoticeTarget => true
  | .writeEnableSet => true
  | .writeGroupMembership => true
  | .writeDropThreshold => true
  | .writeRegister => true
  | .noticeReminder => true
  | .giveFrameAbort _ => true
  | .takeFrameStart => true
  | .takeFrameEnd => true

end Sys2Proof
end

