-- ==== Sys2Proof/Certificates/Slice0/Obligations.lean ====
section
/-!
DEFINITION. The statements for the provers.

Every statement of a command's result is an equation: exec answers the next state that the rules give, finished by the
steps that the command has made due (`State.finish`; FinishTakesDueSteps says what that does).  A record update names all
that changes; every field it does not name is unchanged.  Some things in them are the model's own and not the spec's: how a
command ends and the queue (log entries 1 to 3); the trace `line` of what has been sent and the trace `lane` of what the Take
lane has carried (log entry 4); the count `unknowns` of words of unknown value (log entry 6); the Give frames `stalled` on the
lane (log entry 23); that the alternate rows for one structure act alike, a RETURNING row at a member as the structure's own row
and the structure's own row at the master as the RETURNING one (log entry 7); and what a command does while RESET# is asserted,
with RESTART_ORIGINATED and MESSAGES_INSERTED counted for what an OUT port that is not UP does not send (log entry 10).
-/

open Sys2Proof Sys2Proof.Machine

/-! ### The queue and the internal steps (the model's own, log entries 1 and 3) -/

/-- A step runs the command at the front of the queue over the queue's rest, and idles on an empty queue (log entries 1
and 3). -/
def Obligations.StepTakesFront : Prop :=
  (∀ (c : Instr) (rest : List Instr) (s : State), step { s with pending := c :: rest } = exec c { s with pending := rest }) ∧
  ∀ s : State, s.pending = [] → step s = .next s

/-- How a command ends, and what an internal step does that is not due (log entries 1 and 2): where the next command of
the queue is an internal step, nothing more is done; where nothing is due, nothing more is done; a single step that is
due is taken; and an internal step that is not due has no effect of its own. -/
def Obligations.FinishTakesDueSteps : Prop :=
  (∀ (s : State) (i : Instr) (rest : List Instr) (w : Work), s.pending = i :: rest → workOf i = some w → s.finish = s) ∧
  (∀ s : State, s.due = [] → s.finish = s) ∧
  (∀ (s : State) (w : Work), s.nextIsInternal = false → s.due = [w] → s.finish = (w.perform s).settleFor 95) ∧
  ∀ (i : Instr) (w : Work) (s : State), workOf i = some w → w.ready s = false → exec i s = .next s.finish

/-! ### Resets, ports and link (chapter 1) -/

/-- HARD_RESET returns every block to its hard-reset values; the rank is as strapped and the serial stays (R1, R2, R4,
R13, R20, R21, R37, R74, R97, R104, R110, R137, R139, R165, R173).  What has been sent, the queue of commands and the
model's own choice, count of unknown words and trace of the Take lane are no block's. -/
def Obligations.HardResetValues : Prop :=
  ∀ (mrank : BitVec 2) (s : State), exec (.hardReset mrank) s = .next
    { resetAsserted := true
      inPort := { link := .down, goodIdle := 0, errorRun := 0 }
      outPort := .down
      tracker :=
        { tracking := .down, round := 0
          params := { period := .us250, slotCount := 48, openCapacity := 192, nodeCount := 0 }
          nodeId := none, role := .member, missed := 0, epoch := 0, rank := mrank, serial := s.tracker.serial
          phase := .none, enumTimer := 0, failed := 0, seekTimer := 0, retryTimer := 0, callNo := 0 }
      rx := {}
      tx := {}
      carry := { state := .empty, round := 0, cells := [], messages := [] }
      plan :=
        { bankA := { slots := Vector.replicate 48 .follow, dflt := .pass }
          bankB := { slots := Vector.replicate 48 .follow, dflt := .pass }
          rotation := { length := 1, steps := Vector.replicate 12 .a }
          edits := [], commit := .none, roundPlan := none, commitDue := false, restartDue := false }
      contexts := Vector.replicate 16
        { config := { direction := .dropSide, tag := 0, filterA := none, filterB := none, combine := .any }
          state := .idle, resume := .none, seq := none, assembly := none, resync := false, cellsSent := 0
          inFlight := false, queue := [], counters := Vector.replicate 11 0 }
      filters := Vector.replicate 8 { pattern := 0, mask := 0 }
      drop := { records := [], inTransfer := false }
      responder :=
        { work := [], replies := [], claim := { holder := none, lease := 0 }, holder := false
          alloc := Vector.replicate 5 0, capture := none, overrun := false, answering := [], applyDue := 0, releases := [] }
      config :=
        { target := .local, enable := 0, groups := 0, threshold := 4096, timeout := 32, period := .us250
          slotCount := 48, openCapacity := 192 }
      originator := []
      port := { giveResults := [], completions := [], notice := none, transfer := none, stalled := [], lane := s.port.lane }
      events := { pending := 0, notice := .idle, reminder := 0, startDue := false, upDue := false, lateDue := false }
      counters := Vector.replicate 32 0
      line := s.line
      choice := s.choice
      unknowns := s.unknowns
      pending := s.pending }

/-- The OUT port (R2): released from RESET# it enters TRAINING, with its 32 idle symbols sent it enters UP; a release
met at a port that is not DOWN, and 32 idles at one that is not TRAINING, leave it where it is.  While RESET# is asserted the
part is held at its hard-reset values (R2, R56): whatever arrives at the IN port, a tick, an emission, and the taking of a word
of a Take frame leave everything as it stands (what that means for each command is log entry 10). -/
def Obligations.OutPortTrains : Prop :=
  (∀ s : State, s.outPort = .down →
    exec .resetRelease s = .next (State.finish { s with resetAsserted := false, outPort := .training })) ∧
  (∀ s : State, s.outPort ≠ .down → exec .resetRelease s = .next (State.finish { s with resetAsserted := false })) ∧
  (∀ s : State, s.outPort = .training → exec .outPortUp s = .next (State.finish { s with outPort := .up })) ∧
  (∀ s : State, s.outPort ≠ .training → exec .outPortUp s = .next s.finish) ∧
  ∀ (i : Instr) (s : State), s.resetAsserted = true →
    (i = .signalDetected ∨ (∃ sym, i = .symbolReceived sym) ∨ i = .lossOfSignal ∨ i = .tick ∨ i = .roundEmission ∨
      (∃ w0 w1 w2, i = .restartMarkerArrival w0 w1 w2 ∨ i = .roundHeaderArrival w0 w1 w2 ∨ i = .returningHeaderArrival w0 w1 w2) ∨
      (∃ w0 w1 w2 w3, i = .claimFrameArrival w0 w1 w2 w3 ∨ i = .rollCallArrival w0 w1 w2 w3) ∨
      (∃ c, i = .slotEvent c ∨ i = .returningCellArrival c) ∨ (∃ m, i = .messageArrival m ∨ i = .returningMessageArrival m) ∨
      (∃ w, i = .trailerArrival w ∨ i = .returningTrailerArrival w) ∨ i = .takeFrameStart ∨ i = .takeFrameEnd) →
    exec i s = .next s.finish

/-- The input link (R1).  DOWN and TRAINING: signal takes DOWN to TRAINING; an idle counts, another sets the good-idle count to 0;
with 32 the link goes UP and the tracker enters SEEKING (R23); loss of signal takes it to DOWN; a symbol at a DOWN link does nothing.
UP: a good symbol clears the error run, a coding error counts and is data of unknown value.  Framing (R3, R8): a marker ends a
run of data outside any structure and drops one that it cuts short (log entry 14), and the words behind it are collected (a TRAILER
marker before the last slot: TrailerWithoutInsertion, ReturningRoundStored); the last does what the structure's own row does (in
ISOLATED and UNNUMBERED a RESTART leads to ENUMERATING, a good header shows its period, a frame does nothing).  Other words: out of
IN_ROUND nothing; in a round seven are a cell, and 3 and a body a message, each doing what its row does; a body length above 10, or
words beyond OPEN_CAPACITY, count FRAMING_FAULT and discard the rest; outside a round a run at a member counts it once (log entry
12).  A RESTART or ENUM marker inside a round counts it and ends the round, at the master with the store as it stands (log entry 16);
what still comes of it at a member is outside any round (log entry 33).  The model's choice: a symbol is a word, idles leave no
trace (log entry 5), a tick in a returning header is lost (log entry 43), a structure stays one across a change of tracking state (log
entry 47), the order of the ABANDONED completions (log entry 21). -/
def Obligations.InputLink : Prop :=
  (∀ s : State, s.resetAsserted = false → s.inPort.link = .down →
    exec .signalDetected s = .next (State.finish { s with inPort := { s.inPort with link := .training, goodIdle := 0 } })) ∧
  (∀ (sym : Symbol) (s : State), s.inPort.link = .down → exec (.symbolReceived sym) s = .next s.finish) ∧
  (∀ s : State, s.resetAsserted = false → s.inPort.link = .training → s.inPort.goodIdle < 32 →
    exec (.symbolReceived .idle) s =
      .next (State.finish { s with inPort := { s.inPort with goodIdle := s.inPort.goodIdle + 1 } })) ∧
  (∀ (sym : Symbol) (s : State), s.resetAsserted = false → s.inPort.link = .training → sym ≠ .idle →
    exec (.symbolReceived sym) s = .next (State.finish { s with inPort := { s.inPort with goodIdle := 0 } })) ∧
  (∀ s : State, s.inPort.link = .training → 32 ≤ s.inPort.goodIdle →
    exec .linkUp s = .next (State.finish
      { s with
        inPort := { s.inPort with link := .up, errorRun := 0 }
        tracker := { s.tracker with tracking := .seeking, seekTimer := 0 } })) ∧
  (∀ s : State, s.resetAsserted = false → s.inPort.link = .training →
    exec .lossOfSignal s = .next (State.finish { s with inPort := { s.inPort with link := .down } })) ∧
  (∀ s : State, s.resetAsserted = false → s.inPort.link = .up →
    exec (.symbolReceived .idle) s = .next (State.finish { s with inPort := { s.inPort with errorRun := 0 } })) ∧
  (∀ (m : Marker) (s u : State), s.resetAsserted = false → s.inPort.link = .up →
    u = { s with
      inPort := { s.inPort with errorRun := 0 }
      line :=
        if s.tracker.tracking = .isolated ∨ s.tracker.tracking = .unnumbered then s.lineWith [.symbol (.marker m)] else s.line
      rx := { s.rx with collect := .round, buf := [], outsideRun := false } } →
    (m = .trailer → (s.tracker.tracking = .inRound → s.rx.phase = .slots → s.rx.slotCount ≤ s.rx.slots) →
      exec (.symbolReceived (.marker m)) s = .next (State.finish { u with rx := { u.rx with collect := .trailer } })) ∧
    (∀ c : Collect, m = .restart ∧ c = .restart ∨ m = .enumeration ∧ c = .enumeration →
      (s.tracker.tracking ≠ .inRound ∨ s.rx.phase = .outside →
        exec (.symbolReceived (.marker m)) s = .next (State.finish { u with rx := { u.rx with collect := c } })) ∧
      (s.tracker.tracking = .inRound → s.rx.phase = .absorbing →
        exec (.symbolReceived (.marker m)) s = .next (State.finish { u with rx := { collect := c } })) ∧
      (s.tracker.tracking = .inRound → s.InsideRound →
        exec (.symbolReceived (.marker m)) s = .next (State.finish
          { u with
            rx := { collect := c }
            tx := if s.tracker.role = .master then s.tx else {}
            counters := (s.count .framingFault).counters }))) ∧
    (m = .roundHeader →
      (s.tracker.tracking ≠ .inRound → u.due = [] →
        exec (.symbolReceived (.marker m)) s = .next (State.finish { u with rx := { u.rx with collect := .header } })) ∧
      (s.tracker.tracking = .inRound → s.rx.phase = .outside → u.heard.due = [] →
        exec (.symbolReceived (.marker m)) s = .next (State.finish
          { u.heard with rx := if s.tracker.role = .master then { collect := .header } else { u.rx with collect := .header } })))) ∧
  ∀ (sym : Symbol) (w : RxWord) (s u : State), s.HandsWord sym w u →
    let here := s.tracker.tracking ≠ .isolated ∧ s.tracker.tracking ≠ .unnumbered ∧
      (s.tracker.tracking = .inRound → s.rx.phase = .outside ∧ s.rx.outsideRun = false)
    let more : State := { u with rx := { u.rx with buf := s.rx.buf ++ [w] } }
    (s.rx.collect = .header ∨ s.rx.collect = .restart → s.rx.buf.length < 2 → exec (.symbolReceived sym) s = .next more.finish) ∧
    (s.rx.collect = .enumeration → s.rx.buf.length < 3 → exec (.symbolReceived sym) s = .next more.finish) ∧
    (∀ a b : RxWord, s.rx.buf = [a, b] →
      (s.rx.collect = .header → here → u.due = [] → u.heard.due = [] →
        exec (.symbolReceived sym) s = exec (.roundHeaderArrival a b w) u.taken) ∧
      (s.rx.collect = .restart → here → exec (.symbolReceived sym) s = exec (.restartMarkerArrival a b w) u.taken) ∧
      (s.IsTransparent →
        (s.rx.collect = .header → exec (.symbolReceived sym) s = .next (State.finish
          (if headerGood a b w then
            { u.taken with tracker := { s.tracker with params := { s.tracker.params with period := (headerParams a b).period } } }
          else u.taken))) ∧
        (s.rx.collect = .restart → ∃ t : State, exec (.symbolReceived sym) s = .next t.finish ∧ RingRestarted u.taken t ∧
          t.inPort = u.inPort ∧ t.tracker = s.tracker.attempt (if s.tracker.tracking = .isolated then 0 else s.tracker.failed) ∧
          u.Sent t ((originated s.tracker).drop 1) ∧ t.events = s.events.raise s.config .ringRestarted ∧ t.counters = u.counters))) ∧
    (∀ a b c : RxWord, s.rx.collect = .enumeration → s.rx.buf = [a, b, c] →
      (here → exec (.symbolReceived sym) s = exec (.claimFrameArrival a b c w) u.taken) ∧
      (s.IsTransparent → exec (.symbolReceived sym) s = .next u.taken.finish)) ∧
    (s.rx.collect = .trailer → s.tracker.tracking ≠ .isolated → s.tracker.tracking ≠ .unnumbered →
      exec (.symbolReceived sym) s = exec (.returningTrailerArrival w) u.taken) ∧
    (s.rx.collect = .trailer → s.IsTransparent → exec (.symbolReceived sym) s = .next u.taken.finish) ∧
    (s.rx.collect = .round →
      (s.tracker.tracking ≠ .inRound → exec (.symbolReceived sym) s = .next u.finish) ∧
      (s.tracker.tracking = .inRound →
        (s.rx.phase = .slots →
          (s.rx.buf.length < 6 → exec (.symbolReceived sym) s = .next more.finish) ∧
          ∀ h a b c d e : RxWord, s.rx.buf = [h, a, b, c, d, e] →
            exec (.symbolReceived sym) s = exec (.returningCellArrival { header := h, payload := #v[a, b, c, d, e, w] }) u.taken) ∧
        (s.rx.phase = .openRegion →
          ∀ body : Nat, body = (match s.rx.buf ++ [w] with | _ :: h :: _ => bits h.value 23 20 | _ => 0) →
            (10 < body ∨ s.tracker.params.openCapacity < s.rx.words + 3 + body →
              exec (.symbolReceived sym) s = .next (State.finish
                { u.taken with rx := { u.taken.rx with phase := .discarding }, counters := (u.count .framingFault).counters })) ∧
            (body ≤ 10 → s.rx.words + 3 + body ≤ s.tracker.params.openCapacity →
              (s.rx.buf.length + 1 < 3 + body → exec (.symbolReceived sym) s = .next more.finish) ∧
              ∀ m : RxMessage, s.rx.buf = m.head0 :: m.head1 :: m.body → w = m.check → m.body.length = body →
                exec (.symbolReceived sym) s = exec (.returningMessageArrival m) u.taken)) ∧
        (s.rx.phase = .discarding ∨ s.rx.phase = .absorbing → exec (.symbolReceived sym) s = .next u.finish) ∧
        (s.rx.phase = .outside → exec (.symbolReceived sym) s = .next (State.finish
          (if s.tracker.role = .master ∨ s.rx.outsideRun = true then u
          else { u with rx := { u.rx with outsideRun := true }, counters := (u.count .framingFault).counters })))))

/-- The tracker after the node has entered DOWN (R22): no node ID, MEMBER, phase none, every timer and the failed-attempt
count 0; the round number and parameters, the epoch, the call number, the rank and the serial are kept.  From IN_ROUND it is a
ring restart for the blocks; from elsewhere nothing else is changed but the framing of what was arriving.  The model's
choice: a claim held under an ID that is lost in ENUMERATING stays (log entry 45); the order of the ABANDONED completions (log entry
21). -/
def Obligations.LinkLossEntersDown : Prop :=
  ∀ (i : Instr) (s : State), s.inPort.link = .up →
    (i = .lossOfSignal ∧ s.resetAsserted = false ∨ i = .errorRunLimit ∧ 16 ≤ s.inPort.errorRun) →
    ∃ t : State, exec i s = .next t.finish ∧
      t.inPort = { s.inPort with link := .down } ∧
      t.tracker = { s.tracker with
        tracking := .down, nodeId := none, role := .member, missed := 0, phase := .none, enumTimer := 0, seekTimer := 0
        retryTimer := 0, failed := 0 } ∧
      t.counters = ((s.count .linkDown).count .restartOriginated).counters ∧
      s.Sent t [buildRestart s.tracker.serial] ∧
      (s.tracker.tracking = .inRound → RingRestarted { s with rx := {} } t ∧ t.events = s.events.raise s.config .ringRestarted) ∧
      (s.tracker.tracking ≠ .inRound → t =
        { s with
          inPort := t.inPort, tracker := t.tracker, counters := t.counters, line := t.line
          rx := {} })

/-! ### Timers (R4, R10, R17, R20, R23, R34, R35) -/

/-- A tick advances the timer of the tracking state, up to its limit, and nothing else (R4, R20). -/
def Obligations.TickAdvances : Prop :=
  ∀ s : State, s.resetAsserted = false → exec .tick s = .next (State.finish
    { s with tracker := { s.tracker with
        missed := if s.tracker.tracking = .inRound then min 3 (s.tracker.missed + 1) else s.tracker.missed
        seekTimer := if s.tracker.tracking = .seeking then min 32 (s.tracker.seekTimer + 1) else s.tracker.seekTimer
        enumTimer := if s.tracker.tracking = .enumerating then min 32 (s.tracker.enumTimer + 1) else s.tracker.enumTimer
        retryTimer := if s.tracker.tracking = .isolated then min 4096 (s.tracker.retryTimer + 1) else s.tracker.retryTimer } })

/-- Round loss at a member (R10) and at the master (R17), when the missed-round timer has reached 3: ROUND_LOST is
raised, the node's RESTART marker and its CLAIM are sent, RESTART_ORIGINATED is counted, the node enters ENUMERATING with
RING_RESTARTED raised, and the ring restart reaches every block.  The order of the ABANDONED completions is the model's choice
(log entry 21). -/
def Obligations.RoundLoss : Prop :=
  ∀ (i : Instr) (s : State), s.tracker.tracking = .inRound → 3 ≤ s.tracker.missed →
    (i = .missedRoundMember ∧ s.tracker.role = .member ∨ i = .missedRoundMaster ∧ s.tracker.role = .master) →
    ∃ t : State, exec i s = .next t.finish ∧ RingRestarted s t ∧ t.inPort = s.inPort ∧
      t.tracker = s.tracker.attempt s.tracker.failed ∧
      s.Sent t (originated s.tracker) ∧
      t.events = (s.events.raise s.config .roundLost).raise s.config .ringRestarted ∧
      t.counters = (s.count .restartOriginated).counters

/-- The seek timeout (R23), the isolation retry (R35) and a released RESTART_RING outside ENUMERATING and DOWN (R27)
originate a ring restart (R24, R25); coming from ISOLATED the failed-attempt count becomes 0.  Released in
ENUMERATING, a RESTART_RING begins a new attempt behind the node's own marker and keeps the failed-attempt count; released in
DOWN it has no effect on the tracker.  The model's choice: the order of the ABANDONED completions (log entry 21), that a control
claim held under the old ID stays at a new attempt (log entry 45), and that the words of a structure begun before the change are kept
(log entry 47). -/
def Obligations.RestartOriginated : Prop :=
  (∀ (i : Instr) (s u : State),
    (i = .seekTimeout ∧ s.tracker.tracking = .seeking ∧ 32 ≤ s.tracker.seekTimer ∧ u = s ∨
      i = .isolationRetry ∧ s.tracker.tracking = .isolated ∧ 4096 ≤ s.tracker.retryTimer ∧ u = s ∨
      i = .restartRingRelease ∧ s.tracker.tracking ≠ .enumerating ∧ s.tracker.tracking ≠ .down ∧
        s.responder.applyDue = 0 ∧ Release.restartRing ∈ s.responder.releases ∧
        u = { s with responder := { s.responder with releases := s.responder.releases.erase .restartRing } }) →
    ∃ t : State, exec i s = .next t.finish ∧ RingRestarted u t ∧ t.inPort = s.inPort ∧
      t.tracker = s.tracker.attempt (if s.tracker.tracking = .isolated then 0 else s.tracker.failed) ∧
      s.Sent t (originated s.tracker) ∧
      t.events = s.events.raise s.config .ringRestarted ∧
      t.counters = (s.count .restartOriginated).counters) ∧
  ∀ s : State, s.responder.applyDue = 0 → Release.restartRing ∈ s.responder.releases →
    (s.tracker.tracking = .down →
      exec .restartRingRelease s = .next (State.finish
        { s with responder := { s.responder with releases := s.responder.releases.erase .restartRing } })) ∧
    (s.tracker.tracking = .enumerating →
      exec .restartRingRelease s = .next (State.finish
        { s with
          responder := { s.responder with releases := s.responder.releases.erase .restartRing }
          tracker := { s.tracker with phase := .claiming, nodeId := none, role := .member, enumTimer := 0 }
          line := if s.outPort = .up then s.line ++ originated s.tracker else s.line
          counters := (s.count .restartOriginated).counters }))

/-- The enumeration timeout (R34): ENUM_TIMEOUT and one more failed attempt; below 4 the node's marker goes out and a new
attempt begins; at 4 the node enters ISOLATED, raises ISOLATED and sends nothing.  That the node keeps the role it held then, so
that a CALLING one stays MASTER in ISOLATED, is the model's reading and not a rule's (log entry 19); that a control claim held under the
old ID stays at a new attempt (log entry 45), and that a structure begun before ISOLATED is completed in it (log entry 47), are its
choice. -/
def Obligations.EnumerationTimesOut : Prop :=
  ∀ s : State, s.tracker.tracking = .enumerating → 32 ≤ s.tracker.enumTimer →
    (s.tracker.failed + 1 < 4 →
      exec .enumerationTimeout s = .next (State.finish
        { s with
          tracker := { s.tracker with
            failed := s.tracker.failed + 1, phase := .claiming, nodeId := none, role := .member, enumTimer := 0 }
          line := if s.outPort = .up then s.line ++ originated s.tracker else s.line
          counters := ((s.count .enumTimeout).count .restartOriginated).counters })) ∧
    (s.tracker.failed + 1 = 4 →
      exec .enumerationTimeout s = .next (State.finish
        { s with
          tracker := { s.tracker with
            failed := 4, tracking := .isolated, phase := .none, nodeId := none, enumTimer := 0, retryTimer := 0 }
          events := s.events.raise s.config .isolated
          counters := (s.count .enumTimeout).counters }))

/-! ### RESTART markers, election, roll-call (chapter 2) -/

/-- A RESTART marker whose check is good, at a node that takes part in the ring (R23, R26): another node's is forwarded,
and in SEEKING or IN_ROUND it takes the node into ENUMERATING, in ENUMERATING it begins a new attempt and hands nothing to
the other blocks; the node's own is absorbed, and does no more than end a run of data outside any structure (log entry 12).
The model's choice: the order of the ABANDONED completions (log entry 21), and that a control claim held under the old ID stays at a
new attempt (log entry 45). -/
def Obligations.GoodRestartMarker : Prop :=
  ∀ (w0 w1 w2 : RxWord) (s : State), s.resetAsserted = false → restartGood w0 w1 w2 = true →
    (s.tracker.tracking = .seeking ∨ s.tracker.tracking = .inRound ∧ s.rx.phase = .outside → serialOf w0 w1 ≠ s.tracker.serial →
      ∃ t : State, exec (.restartMarkerArrival w0 w1 w2) s = .next t.finish ∧ RingRestarted s t ∧ t.inPort = s.inPort ∧
        t.tracker = s.tracker.attempt s.tracker.failed ∧
        s.Sent t (.restart w0 w1 w2 :: (originated s.tracker).drop 1) ∧
        t.events = s.events.raise s.config .ringRestarted ∧ t.counters = s.counters) ∧
    (s.tracker.tracking = .enumerating → serialOf w0 w1 ≠ s.tracker.serial →
      exec (.restartMarkerArrival w0 w1 w2) s = .next (State.finish
        { s with
          tracker := { s.tracker with phase := .claiming, nodeId := none, role := .member, enumTimer := 0 }
          line := if s.outPort = .up then s.line ++ .restart w0 w1 w2 :: (originated s.tracker).drop 1 else s.line })) ∧
    (s.tracker.tracking = .seeking ∨ s.tracker.tracking = .enumerating → serialOf w0 w1 = s.tracker.serial →
      exec (.restartMarkerArrival w0 w1 w2) s = .next s.finish) ∧
    (s.tracker.tracking = .inRound → s.rx.phase = .outside → serialOf w0 w1 = s.tracker.serial →
      exec (.restartMarkerArrival w0 w1 w2) s = .next (State.finish { s with rx := { s.rx with outsideRun := false } }))

/-- A RESTART marker whose check fails is not forwarded in SEEKING, ENUMERATING or IN_ROUND: ENUM_CHECK_FAIL is counted
and the node originates a restart of its own (R26).  The model's choice: the order of the ABANDONED completions (log entry 21), and
that a control claim held under the old ID stays at a new attempt (log entry 45). -/
def Obligations.DamagedRestartMarker : Prop :=
  ∀ (w0 w1 w2 : RxWord) (s : State), s.resetAsserted = false → restartGood w0 w1 w2 = false →
    (s.tracker.tracking = .seeking ∨ s.tracker.tracking = .inRound ∧ s.rx.phase = .outside →
      ∃ t : State, exec (.restartMarkerArrival w0 w1 w2) s = .next t.finish ∧ RingRestarted s t ∧ t.inPort = s.inPort ∧
        t.tracker = s.tracker.attempt s.tracker.failed ∧
        s.Sent t (originated s.tracker) ∧
        t.events = s.events.raise s.config .ringRestarted ∧
        t.counters = ((s.count .enumCheckFail).count .restartOriginated).counters) ∧
    (s.tracker.tracking = .enumerating →
      exec (.restartMarkerArrival w0 w1 w2) s = .next (State.finish
        { s with
          tracker := { s.tracker with phase := .claiming, nodeId := none, role := .member, enumTimer := 0 }
          line := if s.outPort = .up then s.line ++ originated s.tracker else s.line
          counters := ((s.count .enumCheckFail).count .restartOriginated).counters }))

/-- In ISOLATED and UNNUMBERED any RESTART marker, good or damaged, the node's own or another's, is sent on unchanged and
takes the node into ENUMERATING; from ISOLATED the failed-attempt count becomes 0 (R26, R35, R36).  Inside a round it counts
FRAMING_FAULT once and ends the round in hand, and is then handled as any (R8): another node's is forwarded and takes the node
into ENUMERATING, a damaged one is replaced by a restart of the node's own, and the node's own is absorbed.  The store of a master
that stays IN_ROUND stays FILLING, and a round that it was absorbing ends without a fault (both log entry 16); at a member that
stays IN_ROUND what still comes of the round is outside any round (log entry 33).  The order of the ABANDONED completions is the
model's choice (log entry 21). -/
def Obligations.RestartMarkerElsewhere : Prop :=
  (∀ (w0 w1 w2 : RxWord) (s : State), s.IsTransparent →
    ∃ t : State, exec (.restartMarkerArrival w0 w1 w2) s = .next t.finish ∧ RingRestarted s t ∧ t.inPort = s.inPort ∧
      t.tracker = s.tracker.attempt (if s.tracker.tracking = .isolated then 0 else s.tracker.failed) ∧
      s.Sent t (.restart w0 w1 w2 :: (originated s.tracker).drop 1) ∧
      t.events = s.events.raise s.config .ringRestarted ∧ t.counters = s.counters) ∧
  (∀ (w0 w1 w2 : RxWord) (s : State), s.IsMemberInRound ∨ s.IsMasterInRound → s.InsideRound →
    (restartGood w0 w1 w2 = true → serialOf w0 w1 ≠ s.tracker.serial →
      ∃ t : State, exec (.restartMarkerArrival w0 w1 w2) s = .next t.finish ∧ RingRestarted { s with rx := {} } t ∧
        t.inPort = s.inPort ∧ t.tracker = s.tracker.attempt s.tracker.failed ∧
        s.Sent t (.restart w0 w1 w2 :: (originated s.tracker).drop 1) ∧
        t.events = s.events.raise s.config .ringRestarted ∧ t.counters = (s.count .framingFault).counters) ∧
    (restartGood w0 w1 w2 = false →
      ∃ t : State, exec (.restartMarkerArrival w0 w1 w2) s = .next t.finish ∧ RingRestarted { s with rx := {} } t ∧
        t.inPort = s.inPort ∧ t.tracker = s.tracker.attempt s.tracker.failed ∧ s.Sent t (originated s.tracker) ∧
        t.events = s.events.raise s.config .ringRestarted ∧
        t.counters = (((s.count .framingFault).count .enumCheckFail).count .restartOriginated).counters) ∧
    (restartGood w0 w1 w2 = true → serialOf w0 w1 = s.tracker.serial →
      exec (.restartMarkerArrival w0 w1 w2) s = .next (State.finish
        { s with
          rx := {}
          tx := if s.tracker.role = .master then s.tx else {}
          counters := (s.count .framingFault).counters }))) ∧
  ∀ (w0 w1 w2 : RxWord) (s : State), s.IsMasterInRound → s.rx.phase = .absorbing →
    exec (.restartMarkerArrival w0 w1 w2) s = exec (.restartMarkerArrival w0 w1 w2) { s with rx := {} }

/-- A CLAIM frame in ENUMERATING (R21, R28, R29): a damaged one is discarded and counted; a node of rank 0 forwards a good one.  At
a node of rank 1 to 3 its own makes a CLAIMING node MASTER with ID 0, CALLING, and sends the ROLL_CALL of the next call number,
and in another phase it is absorbed; another node's is forwarded where it is the better candidate, which makes a CALLING node give
up the mastership, and is discarded where it is the worse.  A frame whose rank is 0 is a damaged one (R183).  The model's
choice: a node of rank 0 forwards its own serial's frame too (log entry 34), a CLAIM's call number and next-ID are not looked at (log
entry 46), and a control claim held under an ID that is given up stays (log entry 45). -/
def Obligations.ClaimFrameInElection : Prop :=
  ∀ (w0 w1 w2 w3 : RxWord) (s : State), s.resetAsserted = false → s.tracker.tracking = .enumerating →
    (enumGood w0 w1 w2 w3 = false →
      exec (.claimFrameArrival w0 w1 w2 w3) s = .next (State.finish { s with counters := (s.count .enumCheckFail).counters })) ∧
    (enumGood w0 w1 w2 w3 = true → frameKind w0 = 1 →
      (s.tracker.rank = 0 →
        exec (.claimFrameArrival w0 w1 w2 w3) s = .next (State.finish { s with line := s.lineWith [.enumFrame w0 w1 w2 w3] })) ∧
      (s.tracker.rank ≠ 0 → serialOf w1 w2 = s.tracker.serial →
        exec (.claimFrameArrival w0 w1 w2 w3) s = .next (State.finish
          (if s.tracker.phase = .claiming then
            { s with
              tracker := { s.tracker with nodeId := some 0, role := .master, phase := .calling, callNo := s.tracker.callNo + 1 }
              line := s.lineWith [buildRollCall s.tracker.rank s.tracker.serial (s.tracker.callNo + 1) 1] }
          else s))) ∧
      (s.tracker.rank ≠ 0 → serialOf w1 w2 ≠ s.tracker.serial →
        exec (.claimFrameArrival w0 w1 w2 w3) s = .next (State.finish
          (if frameRank w0 < s.tracker.rank.toNat ∨
              frameRank w0 = s.tracker.rank.toNat ∧ s.tracker.serial.toNat < (serialOf w1 w2).toNat then
            { s with
              tracker :=
                if s.tracker.phase = .calling then { s.tracker with role := .member, nodeId := none, phase := .claiming }
                else s.tracker
              line := s.lineWith [.enumFrame w0 w1 w2 w3] }
          else s))))

/-- A ROLL_CALL from another node in ENUMERATING, at a node that is not CALLING (R30): with next-ID 1..59 the node takes
that ID, MEMBER and NUMBERED, and forwards the frame with next-ID one more; with next-ID 60 it enters UNNUMBERED, raises
UNNUMBERED, clears the failed attempts and forwards the frame unchanged.  A CALLING node gives up its mastership to a better
master and then does the same, and discards the frame of a worse one.  A damaged frame is discarded and ENUM_CHECK_FAIL counts.  What a
frame so forwarded holds is in ForwardedRollCallFields (log entry 42).  That a control claim held under an ID that is given up or
replaced stays is the model's choice (log entry 45). -/
def Obligations.RollCallNumbersNode : Prop :=
  (∀ (w0 w1 w2 w3 : RxWord) (s : State), s.resetAsserted = false → s.tracker.tracking = .enumerating →
    s.tracker.phase ≠ .calling →
    enumGood w0 w1 w2 w3 = true → frameKind w0 = 2 → serialOf w1 w2 ≠ s.tracker.serial →
    (frameNextId w0 ≤ 59 →
      exec (.rollCallArrival w0 w1 w2 w3) s = .next (State.finish
        { s with
          tracker := { s.tracker with nodeId := some (frameNextId w0), role := .member, phase := .numbered }
          line := if s.outPort = .up then s.line ++ [forwardRollCall w0 w1 w2] else s.line })) ∧
    (frameNextId w0 = 60 →
      exec (.rollCallArrival w0 w1 w2 w3) s = .next (State.finish
        { s with
          tracker := { s.tracker with
            tracking := .unnumbered, nodeId := none, role := .member, phase := .none, enumTimer := 0, failed := 0 }
          line := if s.outPort = .up then s.line ++ [.enumFrame w0 w1 w2 w3] else s.line
          events := s.events.raise s.config .unnumbered }))) ∧
  (∀ (w0 w1 w2 w3 : RxWord) (s : State), s.resetAsserted = false → s.tracker.tracking = .enumerating →
    s.tracker.phase = .calling →
    enumGood w0 w1 w2 w3 = true → frameKind w0 = 2 → serialOf w1 w2 ≠ s.tracker.serial →
    let better := frameRank w0 < s.tracker.rank.toNat ∨
      frameRank w0 = s.tracker.rank.toNat ∧ s.tracker.serial.toNat < (serialOf w1 w2).toNat
    (¬better → exec (.rollCallArrival w0 w1 w2 w3) s = .next s.finish) ∧
    (better → frameNextId w0 ≤ 59 →
      exec (.rollCallArrival w0 w1 w2 w3) s = .next (State.finish
        { s with
          tracker := { s.tracker with nodeId := some (frameNextId w0), role := .member, phase := .numbered }
          line := s.lineWith [forwardRollCall w0 w1 w2] })) ∧
    (better → frameNextId w0 = 60 →
      exec (.rollCallArrival w0 w1 w2 w3) s = .next (State.finish
        { s with
          tracker := { s.tracker with
            tracking := .unnumbered, nodeId := none, role := .member, phase := .none, enumTimer := 0, failed := 0 }
          line := s.lineWith [.enumFrame w0 w1 w2 w3]
          events := s.events.raise s.config .unnumbered }))) ∧
  ∀ (w0 w1 w2 w3 : RxWord) (s : State), s.resetAsserted = false → s.tracker.tracking = .enumerating →
    enumGood w0 w1 w2 w3 = false →
    exec (.rollCallArrival w0 w1 w2 w3) s = .next (State.finish { s with counters := (s.count .enumCheckFail).counters })

/-- The forwarded ROLL_CALL: next-ID is one more, every other bit of the first word and both serial words are as
received, and the check is fresh and good (R30, R182), for a next-ID of 1..59.  That the bits no table assigns go on as received
is the model's choice (log entry 42). -/
def Obligations.ForwardedRollCallFields : Prop :=
  ∀ w0 w1 w2 w3 : RxWord, enumGood w0 w1 w2 w3 = true → frameKind w0 = 2 → frameNextId w0 ≤ 59 →
    ∃ v0 v3 : RxWord, forwardRollCall w0 w1 w2 = .enumFrame v0 w1 w2 v3 ∧ frameNextId v0 = frameNextId w0 + 1 ∧
      v0.value &&& 0xFFFC0FFF#32 = w0.value &&& 0xFFFC0FFF#32 ∧ enumGood v0 w1 w2 v3 = true

/-- The return of the node's own ROLL_CALL (R31, R12): matched by a CALLING node with the same call number, it makes the
carried next-ID the node count, fixes the master configuration with OPEN_CAPACITY clipped to the lesser of the configured
value and 6.4 × P − 4 − 7 × SLOT_COUNT, and emits round 0 as the node's first round start of the epoch; in any other case
it is discarded.  RING_UP is raised at once or as a step of that round start (RoundStartStepsDue), which the model draws from its
choice (log entry 32). -/
def Obligations.RollCallReturns : Prop :=
  ∀ (w0 w1 w2 w3 : RxWord) (s : State), s.resetAsserted = false → s.tracker.tracking = .enumerating →
    enumGood w0 w1 w2 w3 = true → frameKind w0 = 2 → serialOf w1 w2 = s.tracker.serial →
    (s.tracker.phase = .calling → frameCall w0 = s.tracker.callNo →
      ∃ (t : State) (p : RoundParams), exec (.rollCallArrival w0 w1 w2 w3) s = .next t.finish ∧
        p = { period := s.config.period, slotCount := s.config.slotCount
              openCapacity := min s.config.openCapacity (64 * periodMicros s.config.period / 10 - 4 - 7 * s.config.slotCount)
              nodeCount := frameNextId w0 } ∧
        RoundStarted { s with choice := s.choice / 2 } t 0 p.slotCount true ∧
        t.tracker = { s.tracker with
          tracking := .inRound, phase := .none, enumTimer := 0, failed := 0, missed := 0, epoch := s.tracker.epoch + 1
          round := 0, params := p } ∧
        s.Sent t [buildHeader 0 p] ∧
        t.events =
          { (if s.choice % 2 = 0 then s.events.raise s.config .ringUp else { s.events with upDue := true }) with startDue := true } ∧
        t.carry = {} ∧ t.tx = { active := true } ∧ t.rx = {} ∧ t.counters = s.counters) ∧
    (¬(s.tracker.phase = .calling ∧ frameCall w0 = s.tracker.callNo) →
      exec (.rollCallArrival w0 w1 w2 w3) s = .next s.finish)

/-- Enumeration frames outside ENUMERATING (R8, R23, R33): in SEEKING the node originates a restart whatever the frame's check; a
member IN_ROUND forwards another node's good frame, absorbs its own, and counts a damaged one; the master discards both good ones
and counts a damaged one.  Inside a round the frame first counts FRAMING_FAULT and ends that round, at the master with the store
as it stands (log entry 16), and what still comes of it at a member is outside any round (log entry 33); between rounds it ends a
run of data outside any structure (log entry 12).  In ISOLATED and UNNUMBERED every header, cell, message, trailer and enumeration
frame is sent on unchanged and changes nothing else, but that a good header shows its period (R5, R33, log entry 11); that a cell,
a message, a trailer or a header may come by either of its rows is log entry 7.  The model's choice: the order of the ABANDONED
completions (log entry 21), and that a CLAIM's call number and next-ID are not looked at (log entry 46). -/
def Obligations.EnumerationFrameElsewhere : Prop :=
  (∀ (i : Instr) (w0 w1 w2 w3 : RxWord) (s : State), s.resetAsserted = false →
    i = .claimFrameArrival w0 w1 w2 w3 ∨ i = .rollCallArrival w0 w1 w2 w3 →
    (s.tracker.tracking = .seeking →
      ∃ t : State, exec i s = .next t.finish ∧ RingRestarted s t ∧ t.inPort = s.inPort ∧
        t.tracker = s.tracker.attempt s.tracker.failed ∧ s.Sent t (originated s.tracker) ∧
        t.events = s.events.raise s.config .ringRestarted ∧ t.counters = (s.count .restartOriginated).counters) ∧
    (s.tracker.tracking = .inRound →
      ∃ u : State,
        (s.rx.phase = .outside → u = { s with rx := { s.rx with outsideRun := false } }) ∧
        (s.rx.phase = .absorbing → u = { s with rx := {} }) ∧
        (s.InsideRound → u =
          { s with
            rx := {}
            tx := if s.tracker.role = .master then s.tx else {}
            counters := (s.count .framingFault).counters }) ∧
        exec i s = .next (State.finish
          (if enumGood w0 w1 w2 w3 = false then { u with counters := (u.count .enumCheckFail).counters }
          else if s.tracker.role = .master ∨ serialOf w1 w2 = s.tracker.serial then u
          else { u with line := s.lineWith [.enumFrame w0 w1 w2 w3] }))) ∧
    (s.IsTransparent → exec i s = .next (State.finish { s with line := s.lineWith [.enumFrame w0 w1 w2 w3] }))) ∧
  ∀ s : State, s.IsTransparent →
    (∀ (i : Instr) (w0 w1 w2 : RxWord), i = .roundHeaderArrival w0 w1 w2 ∨ i = .returningHeaderArrival w0 w1 w2 → s.due = [] →
      exec i s = .next (State.finish
        { s with
          line := s.lineWith [.header w0 w1 w2]
          tracker :=
            if headerGood w0 w1 w2 then
              { s.tracker with params := { s.tracker.params with period := (headerParams w0 w1).period } }
            else s.tracker })) ∧
    (∀ (i : Instr) (c : RxCell), i = .slotEvent c ∨ i = .returningCellArrival c →
      exec i s = .next (State.finish { s with line := s.lineWith [.cell c] })) ∧
    (∀ (i : Instr) (m : RxMessage), i = .messageArrival m ∨ i = .returningMessageArrival m →
      exec i s = .next (State.finish { s with line := s.lineWith [.message m] })) ∧
    ∀ (i : Instr) (w : RxWord), i = .trailerArrival w ∨ i = .returningTrailerArrival w →
      exec i s = .next (State.finish { s with line := s.lineWith [.trailer w] })

/-! ### Rounds at a member (chapter 1) -/

/-- A round header at a member IN_ROUND between rounds (R6, R7): where it is good, the round is the one it carries, its
parameters are taken, the header is sent on as received, and ROUND_SKIP counts where the number is not one more than the
number held; where its check fails, the round is one more than the number held, under the parameters held, the header is
rebuilt, and HEADER_CHECK_FAIL counts.  Either way it is a round start at every block.  In ENUMERATING (R5, R32): the first good
header to reach a NUMBERED node takes it into IN_ROUND with the epoch counter one more and RING_UP raised, and is a round start
without ROUND_SKIP; a good one at a CLAIMING or CALLING node begins a new attempt behind a restart of the node's own; a damaged
one counts HEADER_CHECK_FAIL and no more.  In SEEKING any header makes the node originate a restart (R23).  Each of these takes
the period of a good header (log entry 11).  The model's choice: RING_UP is raised at once or as a step of its round start, drawn
from choice (log entry 32, RoundStartStepsDue); a RETURNING_HEADER_ARRIVAL at a node that is no master acts as a ROUND_HEADER_ARRIVAL
(log entry 7); the order of the ABANDONED completions (log entry 21); a control claim held under an ID that is given up stays (log
entry 45). -/
def Obligations.MemberRoundStart : Prop :=
  ∀ (i : Instr) (w0 w1 w2 : RxWord) (s : State), i = .roundHeaderArrival w0 w1 w2 ∨ i = .returningHeaderArrival w0 w1 w2 →
    s.resetAsserted = false →
    let seen : RoundParams :=
      { s.tracker.params with period := if headerGood w0 w1 w2 then (headerParams w0 w1).period else s.tracker.params.period }
    (s.IsMemberInRound → s.rx.phase = .outside → s.heard.due = [] →
      ∃ (t : State) (n : RoundNo) (p : RoundParams), exec i s = .next t.finish ∧
        n = (if headerGood w0 w1 w2 then headerRound w0 else s.tracker.round + 1) ∧
        p = (if headerGood w0 w1 w2 then headerParams w0 w1 else s.tracker.params) ∧
        RoundStarted s t n p.slotCount false ∧
        t.tracker = { s.tracker with round := n, params := p, missed := 0 } ∧
        s.Sent t [if headerGood w0 w1 w2 then .header w0 w1 w2 else buildHeader n p] ∧
        t.events = { s.events with startDue := true } ∧ t.carry = s.carry ∧ t.tx = { active := true } ∧
        t.rx = { phase := .slots, slotCount := p.slotCount } ∧
        t.counters =
          (if headerGood w0 w1 w2 then if n = s.tracker.round + 1 then s else s.count .roundSkip
            else s.count .headerCheckFail).counters) ∧
    (s.tracker.tracking = .enumerating → s.due = [] →
      (headerGood w0 w1 w2 = true → s.tracker.phase = .numbered →
        ∃ t : State, exec i s = .next t.finish ∧
          RoundStarted { s with choice := s.choice / 2 } t (headerRound w0) (headerParams w0 w1).slotCount true ∧
          t.tracker = { s.tracker with
            tracking := .inRound, phase := .none, enumTimer := 0, failed := 0, missed := 0, epoch := s.tracker.epoch + 1
            round := headerRound w0, params := headerParams w0 w1 } ∧
          s.Sent t [.header w0 w1 w2] ∧
          t.events =
            { (if s.choice % 2 = 0 then s.events.raise s.config .ringUp else { s.events with upDue := true }) with startDue := true } ∧
          t.carry = s.carry ∧ t.tx = { active := true } ∧
          t.rx = { phase := .slots, slotCount := (headerParams w0 w1).slotCount } ∧ t.counters = s.counters) ∧
      (headerGood w0 w1 w2 = true → s.tracker.phase ≠ .numbered →
        exec i s = .next (State.finish
          { s with
            tracker := { s.tracker with params := seen, phase := .claiming, nodeId := none, role := .member, enumTimer := 0 }
            line := s.lineWith (originated s.tracker)
            counters := (s.count .restartOriginated).counters })) ∧
      (headerGood w0 w1 w2 = false →
        exec i s = .next (State.finish { s with counters := (s.count .headerCheckFail).counters }))) ∧
    (s.tracker.tracking = .seeking → s.due = [] →
      ∃ t : State, exec i s = .next t.finish ∧ RingRestarted s t ∧ t.inPort = s.inPort ∧
        t.tracker = ({ s.tracker with params := seen } : Tracker).attempt s.tracker.failed ∧ s.Sent t (originated s.tracker) ∧
        t.events = s.events.raise s.config .ringRestarted ∧ t.counters = (s.count .restartOriginated).counters)

/-- Slot k at a member (R3, R57): the cell is handled under the action of the round plan for slot k, and exactly one cell
is sent on.  Under PASS it is the received cell, and nothing else changes (R60); under BLANK it is an idle cell, and an
OCCUPIED received cell or one that holds a coding error counts BLANKED (R61).  That a RETURNING_CELL_ARRIVAL at a member is the
same slot event is the model's choice (log entry 7). -/
def Obligations.MemberSlotEvent : Prop :=
  ∀ (i : Instr) (c : RxCell) (s : State), i = .slotEvent c ∨ i = .returningCellArrival c →
    s.IsMemberInRound → s.rx.phase = .slots →
    (∃ r : SlotResult, r = ({ s with rx := s.rx.nextSlot }).processSlot (s.slotAction s.rx.slots) c ∧
      exec i s = .next (State.finish { r.2 with line := if s.outPort = .up then s.line ++ [.cell r.1] else s.line })) ∧
    (s.slotAction s.rx.slots = .pass →
      exec i s = .next (State.finish
        { s with
          rx := { s.rx with slots := s.rx.slots + 1, phase := if s.rx.slots + 1 < s.rx.slotCount then .slots else .openRegion }
          line := if s.outPort = .up then s.line ++ [.cell c] else s.line })) ∧
    (s.slotAction s.rx.slots = .blank →
      exec i s = .next (State.finish
        { s with
          rx := { s.rx with slots := s.rx.slots + 1, phase := if s.rx.slots + 1 < s.rx.slotCount then .slots else .openRegion }
          line := if s.outPort = .up then s.line ++ [.cell idleCell] else s.line
          counters := (if cellTag c ≠ 0 ∨ cellCodingError c = true then s.count .blanked else s).counters }))

/-- In every slot a node sends on the cell it received, or an idle cell, or, only where the received cell was idle, the
named context's next cell (R57); the slot touches nothing but the named context, the Drop Queue, the events and the
counters. -/
def Obligations.SlotSendsOneOfThree : Prop :=
  ∀ (a : PlanEntry) (c out : RxCell) (s t : State), s.processSlot a c = (out, t) →
    (out = c ∨ out = idleCell ∨
      cellTag c = 0 ∧ cellDamaged c = false ∧ ∃ i : Fin 16, a = .insert i ∧ (s.contexts[i].arrive).hasCell = true ∧
        out = (s.contexts[i].arrive).nextCell) ∧
    t = { s with contexts := t.contexts, drop := t.drop, events := t.events, counters := t.counters } ∧
    ∀ j : Fin 16, a ≠ .tap j → a ≠ .drop j → a ≠ .insert j → t.contexts[j] = s.contexts[j]

/-- TAP and DROP slots that deliver nothing (R62, R63, R67): a context of another or an unassigned direction counts
SIDE_MISMATCH; an IDLE or HELD one leaves the slot as PASS; at an eligible one a DAMAGED cell is a check failure, which makes the
sequence UNSET and at a RUNNING context discards the record in assembly and sets resync pending (R88), an IDLE cell is passed on,
and a cell of another tag counts TAG_MISMATCH.  The received cell is sent on in all of them. -/
def Obligations.DropSlotWithoutDelivery : Prop :=
  ∀ (a : PlanEntry) (i : Fin 16) (c : RxCell) (s : State), a = .tap i ∨ a = .drop i →
    (s.contexts[i].config.direction ≠ .dropSide →
      s.processSlot a c = (c, { s with counters := (s.count .sideMismatch).counters })) ∧
    (s.contexts[i].config.direction = .dropSide →
      (s.contexts[i].state = .idle ∨ s.contexts[i].state = .held → s.processSlot a c = (c, s)) ∧
      (s.contexts[i].state = .armed ∨ s.contexts[i].state = .running →
        (cellDamaged c = true → s.processSlot a c = (c,
          { s with
            counters := (s.count .cellCheckFail).counters
            contexts := s.contexts.set i
              (if s.contexts[i].state = .armed then { s.contexts[i].count .checkFail with seq := none }
              else { s.contexts[i].count .checkFail with seq := none, assembly := none, resync := true })
            events := s.events.raise s.config .inputCheckFail })) ∧
        (cellDamaged c = false → cellTag c = 0 → s.processSlot a c = (c, s)) ∧
        (cellDamaged c = false → cellTag c ≠ 0 → cellTag c ≠ s.contexts[i].config.tag.toNat →
          s.processSlot a c = (c, { s with contexts := s.contexts.set i (s.contexts[i].count .tagMismatch) }))))

/-- A matching cell at a TAP or DROP slot (R64, R65, R66): it is delivered to the context at once; under TAP the received
cell is sent on whatever the answer; under DROP the answer TAKE puts an idle cell in its place and counts CELLS_REMOVED,
and PASS_THROUGH sends the received cell on.  What the delivery does: CELLS counts, a completed accepted record is offered to the
Drop Queue, and at an ARMED context the sequence is set and a START or WHOLE takes it to RUNNING (R82); at a RUNNING one the
sequence number is compared, a difference counting SEQ_GAP, discarding the record and setting resync pending (R83).  A START or
WHOLE begins a record (R84): one still in assembly counts SEQ_GAP and is discarded; the record is accepted or rejected by the
filters on its first four bytes, a rejected one counting FILTER_REJECT and answering PASS_THROUGH (R101); a WHOLE completes it at
once, with a fill outside 1..24 read as 24.  A MIDDLE or END without a record is ignored; with one it continues it (R85), or, at a
record of 16 cells, counts TOO_LONG and gives it up (R86). -/
def Obligations.DropSlotDelivery : Prop :=
  (∀ (i : Fin 16) (c : RxCell) (s : State), s.contexts[i].config.direction = .dropSide →
    s.contexts[i].state = .armed ∨ s.contexts[i].state = .running → cellDamaged c = false → cellTag c ≠ 0 →
    cellTag c = s.contexts[i].config.tag.toNat →
    s.processSlot (.tap i) c = (c, (s.deliver i true c).2) ∧
    s.processSlot (.drop i) c =
      if (s.deliver i false c).1 then
        (idleCell, { (s.deliver i false c).2 with counters := ((s.deliver i false c).2.count .cellsRemoved).counters })
      else (c, (s.deliver i false c).2)) ∧
  (∀ (i : Fin 16) (tap take : Bool) (c : RxCell) (s : State) (d : Context) (offered : Option Assembly),
    s.contexts[i].receive s.filters s.tracker.round tap c = (d, take, offered) →
    (offered = none → s.deliver i tap c = (take, { s with contexts := s.contexts.set i d })) ∧
    ∀ a : Assembly, offered = some a → s.deliver i tap c = (take, ({ s with contexts := s.contexts.set i d } : State).offer i a)) ∧
  (∀ (x : Context) (fs : Vector FilterUnit 8) (n : RoundNo) (tap : Bool) (c : RxCell),
    let next : BitVec 3 := BitVec.ofNat 3 (bits c.header.value 24 22) + 1
    let begins := bits c.header.value 21 20 = 0 ∨ bits c.header.value 21 20 = 3
    let counted := x.count .cells
    (x.state = .armed →
      (begins → x.receive fs n tap c = ({ counted with seq := some next, state := .running } : Context).beginRecord fs n tap c) ∧
      (¬begins → x.receive fs n tap c = ({ counted with seq := some next }, true, none))) ∧
    (x.state = .running →
      let d : Context :=
        if ∃ e : BitVec 3, x.seq = some e ∧ e + 1 ≠ next then
          { counted.count .seqGap with assembly := none, resync := true, seq := some next }
        else { counted with seq := some next }
      (begins → x.receive fs n tap c = d.beginRecord fs n tap c) ∧ (¬begins → x.receive fs n tap c = d.continueRecord tap c))) ∧
  (∀ (x : Context) (fs : Vector FilterUnit 8) (n : RoundNo) (tap : Bool) (c : RxCell),
    let d : Context := if x.assembly = none then x else { x.count .seqGap with assembly := none, resync := true }
    let fill := if 1 ≤ bits c.header.value 19 15 ∧ bits c.header.value 19 15 ≤ 24 then bits c.header.value 19 15 else 24
    let started (rejected : Bool) (payload : List Byte) : Assembly :=
      { cells := 1, payload := payload, rejected := rejected, tapped := tap, firstRound := n, age := 0 }
    (x.config.accepts fs c.payload[0].value = true →
      (bits c.header.value 21 20 = 3 →
        x.beginRecord fs n tap c = ({ d with assembly := none }, true, some (started false ((cellBytes c).take fill)))) ∧
      (bits c.header.value 21 20 ≠ 3 →
        x.beginRecord fs n tap c = ({ d with assembly := some (started false (cellBytes c)) }, true, none))) ∧
    (x.config.accepts fs c.payload[0].value = false →
      (bits c.header.value 21 20 = 3 →
        x.beginRecord fs n tap c = ({ d.count .filterReject with assembly := none }, false, none)) ∧
      (bits c.header.value 21 20 ≠ 3 →
        x.beginRecord fs n tap c = ({ d.count .filterReject with assembly := some (started true []) }, false, none)))) ∧
  ∀ (x : Context) (tap : Bool) (c : RxCell),
    let fill := if 1 ≤ bits c.header.value 19 15 ∧ bits c.header.value 19 15 ≤ 24 then bits c.header.value 19 15 else 24
    (x.assembly = none → x.continueRecord tap c = (x, true, none)) ∧
    ∀ r : Assembly, x.assembly = some r →
      (16 ≤ r.cells → x.continueRecord tap c = ({ x.count .tooLong with assembly := none, resync := true }, true, none)) ∧
      (r.cells < 16 →
        let more (bytes : List Byte) : Assembly :=
          { r with cells := r.cells + 1, payload := bytes, tapped := r.tapped || tap }
        (bits c.header.value 21 20 = 1 →
          (r.rejected = false → x.continueRecord tap c = ({ x with assembly := some (more (r.payload ++ cellBytes c)) }, true, none)) ∧
          (r.rejected = true → x.continueRecord tap c = ({ x with assembly := some (more []) }, false, none))) ∧
        (bits c.header.value 21 20 = 2 →
          (r.rejected = false →
            x.continueRecord tap c = ({ x with assembly := none }, true, some (more (r.payload ++ (cellBytes c).take fill)))) ∧
          (r.rejected = true → x.continueRecord tap c = ({ x with assembly := none }, false, none))))

/-- An INSERT slot at a RUNNING or DRAINING context (R68, R70, R71, R90): an IDLE cell with a cell to send is replaced by
the context's next cell, which the context counts and CELLS_INSERTED counts; with none, a RUNNING context counts NO_DATA;
an OCCUPIED cell wins over the context's cell, which is withheld with COLLISION and SLOT_COLLISION and nothing else changed
in the context; a DAMAGED cell is passed on with CELL_CHECK_FAIL and INPUT_CHECK_FAIL.  A context of another or an unassigned
direction counts SIDE_MISMATCH and leaves the slot as PASS, and an IDLE or HELD one leaves it as PASS (R62).  The first INSERT
slot of an ARMED context is handled as at that context RUNNING (R69).  The next cell (R68, R70): a RUNNING or DRAINING context has one while its
head record has a cell unsent; it carries the context's tag and sequence number, WHOLE for the only cell of a record, else START,
MIDDLE or END, a fill of 24 but on the last cell what is left, and the record's next 24 bytes, with a good check and the lap flag
clear.  Sent (R90), it moves sequence and cells sent on by one and CELLS counts; the last one counts RECORDS, takes the record
off the queue and leaves none in flight. -/
def Obligations.InsertSlot : Prop :=
  (∀ (i : Fin 16) (c : RxCell) (s : State),
    (s.contexts[i].config.direction ≠ .insertSide →
      s.processSlot (.insert i) c = (c, { s with counters := (s.count .sideMismatch).counters })) ∧
    (s.contexts[i].config.direction = .insertSide → s.contexts[i].state = .idle ∨ s.contexts[i].state = .held →
      s.processSlot (.insert i) c = (c, s))) ∧
  (∀ (i : Fin 16) (c : RxCell) (s : State), s.contexts[i].config.direction = .insertSide →
    s.contexts[i].state = .running ∨ s.contexts[i].state = .draining →
    s.processSlot (.insert i) c =
      if cellDamaged c then
        (c, { s with counters := (s.count .cellCheckFail).counters, events := s.events.raise s.config .inputCheckFail })
      else if cellTag c = 0 then
        if s.contexts[i].hasCell then
          (s.contexts[i].nextCell,
            { s with
              contexts := s.contexts.set i s.contexts[i].cellSent
              counters := (s.count .cellsInserted).counters })
        else if s.contexts[i].state = .running then
          (c, { s with contexts := s.contexts.set i (s.contexts[i].count .noData) })
        else (c, s)
      else if s.contexts[i].hasCell then
        (c,
          { s with
            contexts := s.contexts.set i (s.contexts[i].count .collision)
            events := s.events.raise s.config .slotCollision })
      else (c, s)) ∧
  (∀ (i : Fin 16) (c : RxCell) (s : State), s.contexts[i].config.direction = .insertSide → s.contexts[i].state = .armed →
    s.processSlot (.insert i) c =
      ({ s with contexts := s.contexts.set i { s.contexts[i] with state := .running } } : State).processSlot (.insert i) c) ∧
  (∀ x : Context, x.hasCell = true ↔
    (x.state = .running ∨ x.state = .draining) ∧
      ∃ (r : InsertRec) (rest : List InsertRec), x.queue = r :: rest ∧ x.cellsSent < (r.payload.length + 23) / 24) ∧
  ∀ (x : Context) (r : InsertRec) (rest : List InsertRec), x.queue = r :: rest →
    let cells := (r.payload.length + 23) / 24
    let last := x.cellsSent + 1 = cells
    (x.cellsSent < cells →
      cellTag x.nextCell = x.config.tag.toNat ∧ cellSeq x.nextCell = x.seq.getD 0 ∧
      cellBoundary x.nextCell = (if cells = 1 then 3 else if x.cellsSent = 0 then 0 else if last then 2 else 1) ∧
      cellFill x.nextCell = (if last then r.payload.length - 24 * x.cellsSent else 24) ∧
      cellLap x.nextCell = false ∧ cellDamaged x.nextCell = false ∧
      ∀ k : Nat, k < 24 → (cellBytes x.nextCell).getD k 0 = r.payload.getD (24 * x.cellsSent + k) 0) ∧
    (¬last → x.cellSent =
      { x.count .cells with inFlight := true, seq := some (x.seq.getD 0 + 1), cellsSent := x.cellsSent + 1 }) ∧
    (last → x.cellSent =
      { (x.count .cells).count .records with
        inFlight := false, seq := some (x.seq.getD 0 + 1), cellsSent := 0, queue := rest })

/-- The completion of a record at the Drop Queue (R87, R105, R106): it is admitted whole at the tail where its charge, 8
bytes plus its length rounded up to a multiple of 4, is no more than 8192 minus the occupancy and fewer than 64 records
are held, and its context counts RECORDS and clears resync pending; otherwise it is discarded whole, the context counts
QUEUE_FULL_DISCARD and sets resync pending, and DROP_QUEUE_FULL is raised.  An admission that takes the occupancy from no
more than the threshold to above it raises DROP_QUEUE_THRESHOLD. -/
def Obligations.RecordOffered : Prop :=
  ∀ (i : Fin 16) (a : Assembly) (s : State),
    let r : DropRec :=
      { ctx := i, tag := s.contexts[i].config.tag, cells := a.cells, firstRound := a.firstRound, tapped := a.tapped
        resync := s.contexts[i].resync, payload := a.payload }
    let charge := 8 + (a.payload.length + 3) / 4 * 4
    (charge ≤ 8192 - dropOccupancy s.drop ∧ s.drop.records.length < 64 →
      s.offer i a =
        { s with
          drop := { s.drop with records := s.drop.records ++ [r] }
          contexts := s.contexts.set i { s.contexts[i].count .records with resync := false }
          events :=
            if dropOccupancy s.drop ≤ s.config.threshold ∧ s.config.threshold < dropOccupancy s.drop + charge then
              s.events.raise s.config .dropQueueThreshold
            else s.events }) ∧
    (¬(charge ≤ 8192 - dropOccupancy s.drop ∧ s.drop.records.length < 64) →
      s.offer i a =
        { s with
          contexts := s.contexts.set i { s.contexts[i].count .queueFullDiscard with resync := true }
          events := s.events.raise s.config .dropQueueFull })

/-- The record filters: a unit matches when the test bytes agree with its pattern in every bit of its mask (R98); of two units
the combine mode decides, one alone decides by its result, and with none the record is accepted (R99). -/
def Obligations.FilterDecision : Prop :=
  (∀ (u : FilterUnit) (test : Word),
    u.matches test = true ↔ ∀ k : Nat, k < 32 → u.mask.getLsbD k = true → test.getLsbD k = u.pattern.getLsbD k) ∧
  ∀ (c : CtxConfig) (fs : Vector FilterUnit 8) (test : Word),
    (∀ a b : Fin 8, c.filterA = some a → c.filterB = some b →
      (c.combine = .any → (c.accepts fs test = true ↔ fs[a].matches test = true ∨ fs[b].matches test = true)) ∧
      (c.combine = .all → (c.accepts fs test = true ↔ fs[a].matches test = true ∧ fs[b].matches test = true)) ∧
      (c.combine = .none → (c.accepts fs test = true ↔ fs[a].matches test = false ∧ fs[b].matches test = false)) ∧
      (c.combine = .notAll → (c.accepts fs test = true ↔ fs[a].matches test = false ∨ fs[b].matches test = false))) ∧
    (∀ a : Fin 8, (c.filterA = some a ∧ c.filterB = none ∨ c.filterA = none ∧ c.filterB = some a) →
      c.accepts fs test = fs[a].matches test) ∧
    (c.filterA = none → c.filterB = none → c.accepts fs test = true)

/-! ### Messages and the trailer (chapter 8) -/

/-- A message at a member's open region that goes on round the ring (R122 row 6, R130, R131): addressed neither to the
node nor to a group of its own nor to all, and not sent by it.  With a hop budget above 1 it is sent on with the budget
one less and a fresh check, and counts into the words and messages sent (R132); otherwise it is removed and MSG_STALE
counts.  Any message that is forwarded, CLAIMED set or not, goes on so.  That a RETURNING_MESSAGE_ARRIVAL at a member is the same
message arrival is the model's choice (log entry 7). -/
def Obligations.MessageForwarded : Prop :=
  (∀ (i : Instr) (m : RxMessage) (s : State), i = .messageArrival m ∨ i = .returningMessageArrival m →
    s.IsMemberInRound → s.rx.phase = .openRegion → m.body.length = msgBodyLength m → m.body.length ≤ 10 →
    s.rx.words + (3 + m.body.length) ≤ s.tracker.params.openCapacity →
    let received : State := { s with rx :=
      { s.rx with words := s.rx.words + (3 + m.body.length), messages := s.rx.messages + 1 } }
    exec i s = .next (received.handleMessage m).finish ∧
    (msgGood m = true → msgMalformed m = false → s.tracker.nodeId ≠ some (msgSource m) → s.tracker.nodeId ≠ some (msgDest m) →
      s.addressedAsMember (msgDest m) = false →
      (1 < msgHops m → exec i s = .next (State.finish
        { received with
          tx := { s.tx with words := s.tx.words + (3 + m.body.length), messages := s.tx.messages + 1 }
          line := if s.outPort = .up then s.line ++ [.message (forwardedMessage m false)] else s.line })) ∧
      (msgHops m ≤ 1 → exec i s = .next (State.finish { received with counters := (s.count .msgStale).counters })))) ∧
  ∀ (m : RxMessage) (claim : Bool) (s : State),
    s.forward m claim =
      if msgHops m ≤ 1 then { s with counters := (s.count .msgStale).counters } else s.messageSent (forwardedMessage m claim)

/-- A forwarded message keeps every field but the hop budget, one less, and CLAIMED, set where it is set or asked for; its
body is as received, and its check is good (R130, R131).  That bits 1:0 of its first word and 19:0 of its second, which no table
assigns, go on as received is the model's choice (log entry 42). -/
def Obligations.ForwardedMessageFields : Prop :=
  ∀ (m : RxMessage) (claim : Bool), 1 ≤ msgHops m →
    let f := forwardedMessage m claim
    msgHops f = msgHops m - 1 ∧ msgKind f = msgKind m ∧ msgDest f = msgDest m ∧ msgSource f = msgSource m ∧
    msgTag f = msgTag m ∧ msgClaimed f = (msgClaimed m || claim) ∧ msgBounced f = msgBounced m ∧
    bits f.head0.value 1 0 = bits m.head0.value 1 0 ∧ f.head1.value = m.head1.value ∧ msgBody f = msgBody m ∧ msgGood f = true

/-- A message that ends here or that is acted on here.  One whose check fails counts MSG_CHECK_FAIL and raises INPUT_CHECK_FAIL; a
malformed one counts MSG_MALFORMED (R123).  Of the node's own that have returned (R124, R169): a REPLY or NOTICE counts
MSG_UNDELIVERED; a request completes the SENT entry it matches: NO_NODE from a node, from a group NO_MEMBER for a READ or SWAP that
nobody claimed and OK for a write or command; a claimed one or one without its entry ends nothing.  To the node's own ID (R125): a
request that can be taken is removed; one that cannot is bounced in place (R126): REQUESTS_BOUNCED, and in its place a REPLY of 3
words to its source, BOUNCED with BUSY_RETRY; a REPLY completes the SENT entry it matches, or counts LATE_REPLY (R168); a NOTICE
fills the received-notice place, and NOTICES_REPLACED counts where one waited there (R127).  To a group of the node's or to all: a
READ or SWAP is taken and answered and goes on with CLAIMED set; a claimed one, and a SWAP at a node that is no holder, goes on as
it is (with no place free too: log entry 44); one that cannot be taken counts GROUP_READ_PASSED (R128); a write or command is enqueued, or refused and recorded, with
GROUP_MISSED where the work queue is full, and goes on (R129, R147).  The answers come before the hop-budget test (log entry 41). -/
def Obligations.MessageRemovedOrBounced : Prop :=
  (∀ (m : RxMessage) (s : State),
    (msgGood m = false → s.handleMessage m =
      { s with counters := (s.count .msgCheckFail).counters, events := s.events.raise s.config .inputCheckFail }) ∧
    (msgGood m = true → msgMalformed m = true → s.handleMessage m = { s with counters := (s.count .msgMalformed).counters }) ∧
    (msgGood m = true → msgMalformed m = false → s.tracker.nodeId = some (msgSource m) → 5 ≤ msgKind m →
      s.handleMessage m = { s with counters := (s.count .msgUndelivered).counters })) ∧
  (∀ (k : ReqKind) (m : RxMessage) (s : State), msgGood m = true → msgMalformed m = false →
    s.tracker.nodeId = some (msgSource m) → reqKindOfCode (msgKind m) = some k →
    (¬(∃ e ∈ s.originator, e.sent = true ∧ e.tag = msgTag m ∧ e.dest = msgDest m ∧ e.kind = k) → s.handleMessage m = s) ∧
    ∀ e ∈ s.originator, (s.originator.map OrigEntry.tag).Nodup → e.sent = true → e.tag = msgTag m → e.dest = msgDest m → e.kind = k →
      let completed (status : BitVec 8) : State :=
        { s with
          originator := s.originator.filter fun x => x.tag != e.tag
          port := { s.port with completions := s.port.completions ++ [{ ref := e.ref, status := status, body := [] }] } }
      (msgDest m ≤ 59 → s.handleMessage m = completed 22) ∧
      (59 < msgDest m →
        (k = .read ∨ k = .swap → s.handleMessage m = if msgClaimed m then s else completed 23) ∧
        (k ≠ .read → k ≠ .swap → s.handleMessage m = completed 0))) ∧
  (∀ (m : RxMessage) (s : State), msgGood m = true → msgMalformed m = false →
    s.tracker.nodeId ≠ some (msgSource m) → s.tracker.nodeId = some (msgDest m) →
    (∀ k : ReqKind, reqKindOfCode (msgKind m) = some k →
      (∀ t : State, s.take (requestEntry k .unicast m) = some t → s.handleMessage m = t) ∧
      (s.take (requestEntry k .unicast m) = none →
        s.handleMessage m =
          { s with
            counters := (s.count .requestsBounced).counters
            tx := { s.tx with words := s.tx.words + 3, messages := s.tx.messages + 1 }
            line := if s.outPort = .up then
                s.line ++
                  [.message (buildMessage 5 (msgSource m) (msgDest m) (msgTag m) (s.tracker.params.nodeCount + 1) true 2 [])]
              else s.line })) ∧
    (msgKind m = 5 →
      let fits (e : OrigEntry) : Prop := e.sent = true ∧ e.tag = msgTag m ∧
        (e.dest ≤ 59 ∧ e.dest = msgSource m ∨ 59 < e.dest ∧ (e.kind = .read ∨ e.kind = .swap))
      (¬(∃ e ∈ s.originator, fits e) → s.handleMessage m = { s with counters := (s.count .lateReply).counters }) ∧
      ∀ e ∈ s.originator, (s.originator.map OrigEntry.tag).Nodup → fits e →
        s.handleMessage m =
          { s with
            originator := s.originator.filter fun x => x.tag != e.tag
            port := { s.port with
              completions := s.port.completions ++
                [{ ref := e.ref
                   status := if msgBounced m then 2 else msgStatus m
                   body := if msgBounced m then [] else (msgBody m).take 8 }] } }) ∧
    (msgKind m = 6 → ∀ w0 w1 : RxWord, m.body = [w0, w1] →
      s.handleMessage m =
        { s with
          counters := (if s.port.notice = none then s else s.count .noticesReplaced).counters
          port := { s.port with
            notice := some { source := msgSource m, pending := w0.value.setWidth 16, round := w1.value.setWidth 16 } } })) ∧
  ∀ (k : ReqKind) (m : RxMessage) (s : State), msgGood m = true → msgMalformed m = false →
    s.tracker.nodeId ≠ some (msgSource m) → s.tracker.nodeId ≠ some (msgDest m) → reqKindOfCode (msgKind m) = some k →
    msgDest m = 127 ∨ (64 ≤ msgDest m ∧ msgDest m ≤ 79 ∧ s.config.groups.getLsbD (msgDest m - 64) = true) →
    s.responder.answering = [] →
    (k = .read ∨ k = .swap →
      (msgClaimed m = true ∨ k = .swap ∧ s.responder.holder = false → s.handleMessage m = s.forward m false) ∧
      (msgClaimed m = false → (k = .swap → s.responder.holder = true) →
        (s.take (requestEntry k .unicast m) = none →
          s.handleMessage m = State.forward m false { s with counters := (s.count .groupReadPassed).counters }) ∧
        ∀ t : State, s.take (requestEntry k .unicast m) = some t → s.handleMessage m = t.answerAll.forward m true)) ∧
    (k ≠ .read → k ≠ .swap →
      let e := requestEntry k .group m
      (s.classify e = .answer →
        s.handleMessage m =
          State.forward m false (State.answerAll { s with responder := { s.responder with answering := [e] } })) ∧
      (∀ (st : Status) (w : RxWord) (more : List RxWord), m.body = w :: more → s.classify e = .refuse st →
        s.handleMessage m = (s.recordFailure e (bits w.value 23 16) st).forward m false) ∧
      (s.classify e = .enqueue →
        (s.responder.work.length < 4 →
          s.handleMessage m = State.forward m false
            { s with responder := { s.responder with
                work := s.responder.work ++ [e]
                applyDue := if s.tracker.tracking = .inRound then s.responder.applyDue else s.responder.work.length + 1 } }) ∧
        (4 ≤ s.responder.work.length →
          s.handleMessage m = State.forward m false
            (({ s with counters := (s.count .groupMissed).counters } : State).recordFailure e (reqIndex (msgBody m))
              .groupMissed))))

/-- The trailer at a member (R8, R9): the received trailer is compared with the node's own counts of the open region, what waits
is inserted and a fresh trailer with room-left and the count of messages sent closes the round; with nothing to insert that trailer
alone.  Damaged framing (R8): at a trailer (by symbols, at its marker) or header before the last slot FRAMING_FAULT counts and the
missing slots are handled as idle cells, each under its own action, the steps that it makes due taken before the next; a header (or its marker) before the
trailer counts it and closes the round in hand as that round's trailer would, unchecked, and then begins its own; a message with a body length above 10 or beyond OPEN_CAPACITY counts it and the rest up
to the trailer is discarded; a cell or message outside a round counts it, once for a run (log entry 12), and a trailer there closes
nothing and ends the run (log entry 13).  That a RETURNING row at a member acts as the same structure's row is the model's choice
(log entry 7). -/
def Obligations.TrailerWithoutInsertion : Prop :=
  let trailerOf (s : State) : TrunkItem := buildTrailer (s.tracker.params.openCapacity - s.tx.words) s.tx.messages
  let fault (s : State) : State := { s with counters := (s.count .framingFault).counters }
  let filled (s : State) : State := (fault s).memberMissing (s.rx.slotCount - s.rx.slots)
  let closed (s : State) : State :=
    if s.rx.phase = .slots then (if (filled s).tracker.tracking = .inRound then (filled s).sendTrailer else filled s)
    else (fault s).sendTrailer
  let checked (w : RxWord) (s t : State) : State :=
    if trailerGood w = true ∧ trailerRoom w = s.tracker.params.openCapacity - s.rx.words ∧ trailerCount w = s.rx.messages then t
    else t.count .trailerMismatch
  (∀ (i : Instr) (w : RxWord) (s : State), i = .trailerArrival w ∨ i = .returningTrailerArrival w → s.IsMemberInRound →
    (s.rx.phase = .openRegion ∨ s.rx.phase = .discarding →
      exec i s = .next ((checked w s s).sendTrailer).finish ∧
      (s.nextOffer = none → exec i s = .next (State.finish
        { s with rx := {}, tx := {}, line := s.lineWith [trailerOf s], counters := (checked w s s).counters }))) ∧
    (s.rx.phase = .slots →
      ((filled s).tracker.tracking = .inRound → exec i s = .next ((checked w (filled s) (filled s)).sendTrailer).finish) ∧
      ((filled s).tracker.tracking ≠ .inRound → exec i s = .next (filled s).finish)) ∧
    (s.rx.phase = .slots → s.nextOffer = none → s.due = [] →
      (∀ k : Nat, s.rx.slots ≤ k → k < s.rx.slotCount → s.slotAction k = .pass) →
      exec i s = .next (State.finish
        { s with
          rx := {}
          tx := {}
          line := s.lineWith (List.replicate (s.rx.slotCount - s.rx.slots) (.cell idleCell) ++ [trailerOf s])
          counters := (checked w s (s.count .framingFault)).counters })) ∧
    (s.rx.phase = .outside → exec i s = .next (State.finish { s with rx := { s.rx with outsideRun := false } }))) ∧
  (∀ s u : State, s.IsMemberInRound → s.inPort.link = .up → s.rx.phase = .slots → s.rx.slots < s.rx.slotCount →
    u = { s with
      inPort := { s.inPort with errorRun := 0 }
      rx := { s.rx with collect := .round, buf := [], outsideRun := false } } →
    exec (.symbolReceived (.marker .trailer)) s =
      .next (State.finish { filled u with rx := { (filled u).rx with collect := .trailer, buf := [] } }) ∧
    (s.due = [] → (∀ k : Nat, s.rx.slots ≤ k → k < s.rx.slotCount → s.slotAction k = .pass) →
      exec (.symbolReceived (.marker .trailer)) s = .next (State.finish
        { u with
          rx := { u.rx with slots := s.rx.slotCount, phase := .openRegion, collect := .trailer }
          line := s.lineWith (List.replicate (s.rx.slotCount - s.rx.slots) (.cell idleCell))
          counters := (s.count .framingFault).counters }))) ∧
  (∀ (i : Instr) (w0 w1 w2 : RxWord) (s : State), s.IsMemberInRound → s.nextOffer = none →
    i = .roundHeaderArrival w0 w1 w2 ∨ i = .returningHeaderArrival w0 w1 w2 ∨
      i = .symbolReceived (.marker .roundHeader) ∧ s.inPort.link = .up →
    (s.rx.phase = .openRegion ∨ s.rx.phase = .discarding →
      exec i s = exec i
        { s with
          rx := {}
          tx := {}
          line := s.lineWith [trailerOf s]
          counters := (s.count .framingFault).counters }) ∧
    (s.rx.phase = .slots → s.heard.due = [] →
      (∀ k : Nat, s.rx.slots ≤ k → k < s.rx.slotCount → s.slotAction k = .pass) →
      exec i s = exec i
        { s with
          rx := {}
          tx := {}
          line := s.lineWith (List.replicate (s.rx.slotCount - s.rx.slots) (.cell idleCell) ++ [trailerOf s])
          counters := (s.count .framingFault).counters })) ∧
  (∀ (i : Instr) (w0 w1 w2 : RxWord) (s : State), s.IsMemberInRound → s.InsideRound →
    (i = .roundHeaderArrival w0 w1 w2 ∨ i = .returningHeaderArrival w0 w1 w2 →
      (closed s.heard).tracker.tracking = .inRound ∨ (closed s.heard).tracker.tracking = .enumerating →
      exec i s = exec i (closed s.heard)) ∧
    (s.inPort.link = .up → ∀ u : State,
      u = closed { s.heard with
        inPort := { s.inPort with errorRun := 0 }
        rx := { s.rx with collect := .round, buf := [], outsideRun := false } } →
      exec (.symbolReceived (.marker .roundHeader)) s =
        .next (State.finish { u.settle with rx := { u.settle.rx with collect := .header, buf := [] } }))) ∧
  (∀ (n : Nat) (s : State), s.memberMissing 0 = s ∧ (s.tracker.tracking ≠ .inRound → s.memberMissing n = s) ∧
    (s.tracker.tracking = .inRound → s.memberMissing (n + 1) = ((s.memberSlot idleCell).settle).memberMissing n)) ∧
  (∀ (c : RxCell) (s : State), s.rx.phase = .slots →
    ∃ r : SlotResult, r = ({ s with rx := s.rx.nextSlot }).processSlot (s.slotAction s.rx.slots) c ∧
      s.memberSlot c = { r.2 with line := s.lineWith [.cell r.1] }) ∧
  (∀ s : State, (s.due = [] → s.settle = s) ∧ (s.nextIsInternal = false → s.settle = s.finish)) ∧
  (∀ (i : Instr) (m : RxMessage) (s : State), i = .messageArrival m ∨ i = .returningMessageArrival m → s.IsMemberInRound →
    (s.rx.phase = .openRegion →
      10 < msgBodyLength m ∨
        m.body.length = msgBodyLength m ∧ s.tracker.params.openCapacity < s.rx.words + (3 + m.body.length) →
      exec i s = .next (State.finish
        { s with rx := { s.rx with phase := .discarding }, counters := (s.count .framingFault).counters })) ∧
    (s.rx.phase = .discarding → exec i s = .next s.finish)) ∧
  ∀ (i : Instr) (c : RxCell) (m : RxMessage) (s : State),
    i = .slotEvent c ∨ i = .returningCellArrival c ∨ i = .messageArrival m ∨ i = .returningMessageArrival m →
    s.IsMemberInRound → s.rx.phase = .outside →
    exec i s = .next (State.finish
      (if s.rx.outsideRun = true then s
      else { s with rx := { s.rx with outsideRun := true }, counters := (s.count .framingFault).counters }))

/-- One offer of the insertion arbiter (R133, R134): a message that fits is sent and MESSAGES_INSERTED counts, a reply's
place is emptied, a notice is no longer due, an Originator entry becomes SENT with the transaction timeout; the arbiter then goes
on.  At the first that does not fit it stops and ROOM_SHORT counts.  Filled replies are offered before a due notice to another node,
and that before Originator entries that await room.  A reply's departure releases what its release mark names (R149): a NODE_RESET
is performed there and then, on the node as the insertion leaves it (which clears the count just made, log entry 36); a
RESTART_RING originates a ring restart there (R24, R25, R27), and nothing more of the round is sent: the opportunity ends, and the
trailer with it.  Otherwise the trailer with room-left and the count of messages sent closes the round (R9).  The order of the
ABANDONED completions is the model's choice (log entry 21). -/
def Obligations.ArbiterOffers : Prop :=
  (∀ (n : Nat) (o : Offer) (s : State), s.tracker.tracking = .inRound → s.nextOffer = some o →
    s.arbiter (n + 1) =
      if msgLength (s.offerMessage o) ≤ s.tracker.params.openCapacity - s.tx.words then
        (s.insertOffered o).arbiter n
      else { s with counters := (s.count .roomShort).counters }) ∧
  (∀ (n : Nat) (s : State), s.tracker.tracking ≠ .inRound ∨ s.nextOffer = none → s.arbiter n = s) ∧
  (∀ s t : State, t = s.arbiter (s.responder.replies.length + s.originator.length + 2) →
    (t.tracker.tracking ≠ .inRound → s.sendTrailer = t) ∧
    (t.tracker.tracking = .inRound → s.sendTrailer =
      { t with
        tx := {}
        rx := if t.tracker.role = .master then t.rx else {}
        line := t.lineWith [buildTrailer (t.tracker.params.openCapacity - t.tx.words) t.tx.messages] })) ∧
  (∀ (s : State) (r : Reply) (rest : List Reply), s.responder.replies = r :: rest → s.nextOffer = some (.reply r)) ∧
  (∀ (s : State) (id : Nat), s.responder.replies = [] → s.config.target = .node id → s.events.notice = .due →
    s.tracker.nodeId ≠ some id → s.nextOffer = some (.notice id)) ∧
  (∀ (s : State) (e : OrigEntry), s.responder.replies = [] → s.noticeDest = none →
    s.originator.find? (fun x => !x.sent) = some e → s.nextOffer = some (.request e)) ∧
  (∀ (s inserted : State) (r : Reply),
    inserted =
      { s with
        responder := { s.responder with replies := s.responder.replies.drop 1 }
        tx := { s.tx with words := s.tx.words + (3 + r.body.length), messages := s.tx.messages + 1 }
        line := if s.outPort = .up then
            s.line ++ [.message (buildMessage 5 r.dest (s.tracker.nodeId.getD 0) r.tag (s.tracker.params.nodeCount + 1) false
              (statusCode r.status) r.body)] else s.line
        counters := (s.count .messagesInserted).counters } →
    (r.mark = none → s.insertOffered (.reply r) = inserted) ∧
    (r.mark = some .nodeReset → s.insertOffered (.reply r) = inserted.softReset) ∧
    (r.mark = some .restartRing → s.tracker.tracking = .inRound →
      ∃ t : State, s.insertOffered (.reply r) = t ∧ RingRestarted inserted t ∧ t.inPort = s.inPort ∧
        t.tracker = s.tracker.attempt s.tracker.failed ∧ inserted.Sent t (originated s.tracker) ∧
        t.events = s.events.raise s.config .ringRestarted ∧
        t.counters = ((s.count .messagesInserted).count .restartOriginated).counters)) ∧
  (∀ (s : State) (id : Nat),
    s.insertOffered (.notice id) =
      { s with
        events := { s.events with notice := .idle, reminder := 0 }
        tx := { s.tx with words := s.tx.words + 5, messages := s.tx.messages + 1 }
        line := if s.outPort = .up then
            s.line ++ [.message (buildMessage 6 id (s.tracker.nodeId.getD 0) 0 (s.tracker.params.nodeCount + 1) false 0
              [s.events.pending.setWidth 32, s.tracker.round.setWidth 32])] else s.line
        counters := (s.count .messagesInserted).counters }) ∧
  (∀ (s : State) (e : OrigEntry),
    s.insertOffered (.request e) =
      { s with
        originator := s.originator.map fun x =>
          if x.tag = e.tag then { x with sent := true, remaining := s.config.timeout } else x
        tx := { s.tx with words := s.tx.words + (3 + e.body.length), messages := s.tx.messages + 1 }
        line := if s.outPort = .up then
            s.line ++ [.message (buildMessage (reqKindCode e.kind) e.dest (s.tracker.nodeId.getD 0) e.tag
              (s.tracker.params.nodeCount + 1) false 0 e.body)] else s.line
        counters := (s.count .messagesInserted).counters })

/-! ### Rounds at the master (chapter 1) -/

/-- The emission of round e + 1 with the round in hand finished and nothing due (R11, R14, R15, R16): with round e COMPLETE
in the store its cells and messages are carried; otherwise round e is late, LATE_RETURN counts and RING_LATE is raised, and
nothing is carried; what of a FILLING round is still to come is absorbed, and the reception is otherwise as it was.  The store is
EMPTY afterwards, and the emission is a round start at every block.  RING_LATE is raised at once or as a step of that round start
(RoundStartStepsDue), which the model draws from its choice (log entry 32). -/
def Obligations.RoundEmission : Prop :=
  ∀ s : State, s.IsMasterInRound → s.tx.active = false → s.due = [] →
    ∃ t : State, exec .roundEmission s = .next t.finish ∧
      t.tracker = { s.tracker with round := s.tracker.round + 1 } ∧
      s.Sent t [buildHeader (s.tracker.round + 1) s.tracker.params] ∧ t.carry = {} ∧
      (s.carry.state = .complete ∧ s.carry.round = s.tracker.round →
        RoundStarted s t (s.tracker.round + 1) s.tracker.params.slotCount false ∧
        t.tx = { active := true, carryCells := s.carry.cells, carryMessages := s.carry.messages } ∧
        t.counters = s.counters ∧ t.events = { s.events with startDue := true } ∧ t.rx = s.rx) ∧
      (¬(s.carry.state = .complete ∧ s.carry.round = s.tracker.round) →
        RoundStarted { s with choice := s.choice / 2 } t (s.tracker.round + 1) s.tracker.params.slotCount false ∧
        t.tx = { active := true } ∧ t.counters = (s.count .lateReturn).counters ∧
        t.events =
          { (if s.choice % 2 = 0 then s.events.raise s.config .ringLate else { s.events with lateDue := true }) with
            startDue := true } ∧
        t.rx =
          if s.carry.state = .filling ∧ s.rx.phase ≠ .outside then { s.rx with phase := .absorbing, buf := [] } else s.rx)

/-- A returning header at the master between rounds (R13): the missed-round timer is 0; a good one that carries the last
emitted number and meets an EMPTY store, or a damaged one that meets an EMPTY store, begins to fill it; any other marks a
round that is absorbed.  A damaged one counts HEADER_CHECK_FAIL.  That a ROUND_HEADER_ARRIVAL at the master is the same returning
header is the model's choice (log entry 7). -/
def Obligations.ReturningHeader : Prop :=
  ∀ (i : Instr) (w0 w1 w2 : RxWord) (s : State),
    i = .returningHeaderArrival w0 w1 w2 ∨ i = .roundHeaderArrival w0 w1 w2 →
    s.IsMasterInRound → s.rx.phase = .outside → ({ s.heard with rx := {} } : State).due = [] →
    exec i s = .next (State.finish
      { s with
        tracker := { s.tracker with missed := 0 }
        counters := (if headerGood w0 w1 w2 then s else s.count .headerCheckFail).counters
        carry :=
          if s.carry.state = .empty ∧ (headerGood w0 w1 w2 = true → headerRound w0 = s.tracker.round) then
            { state := .filling, round := s.tracker.round }
          else s.carry
        rx :=
          if s.carry.state = .empty ∧ (headerGood w0 w1 w2 = true → headerRound w0 = s.tracker.round) then
            { phase := .slots
              slotCount := if headerGood w0 w1 w2 then (headerParams w0 w1).slotCount else s.tracker.params.slotCount }
          else { phase := .absorbing } })

/-- The rest of a FILLING round at the master (R13): a cell and a message are placed in the store in the order they arrive,
and the trailer makes the store COMPLETE and is checked against the master's own counts; while a round is absorbed a cell and a
message change nothing, and its trailer ends it.  Damaged framing (R8, R13): at a trailer (by symbols, at its marker) or header before
the last slot the missing slots are stored as idle cells and FRAMING_FAULT counts; a header (or its marker) before the trailer counts it, completes the store
without a check, and then begins its own round; a message with a body length above 10 or beyond OPEN_CAPACITY counts it and the rest
up to the trailer is discarded.  The model's readings and not rules': between rounds a cell and a message at the master change nothing
(log entry 16), nor does a trailer (log entry 13), and a header inside an absorbed round ends the absorbing without a fault (log
entry 16). -/
def Obligations.ReturningRoundStored : Prop :=
  let checked (w : RxWord) (s t : State) : State :=
    if trailerGood w = true ∧ trailerRoom w = s.tracker.params.openCapacity - s.rx.words ∧ trailerCount w = s.rx.messages then t
    else t.count .trailerMismatch
  let filled (s : State) : List RxCell := s.carry.cells ++ List.replicate (s.rx.slotCount - s.rx.slots) idleCell
  (∀ (c : RxCell) (s : State), s.IsMasterInRound → s.rx.phase = .slots →
    exec (.returningCellArrival c) s = .next (State.finish
      { s with
        rx := { s.rx with slots := s.rx.slots + 1, phase := if s.rx.slots + 1 < s.rx.slotCount then .slots else .openRegion }
        carry := { s.carry with cells := s.carry.cells ++ [c] } })) ∧
  (∀ (m : RxMessage) (s : State), s.IsMasterInRound → s.rx.phase = .openRegion →
    (m.body.length = msgBodyLength m → m.body.length ≤ 10 →
      s.rx.words + (3 + m.body.length) ≤ s.tracker.params.openCapacity →
      exec (.returningMessageArrival m) s = .next (State.finish
        { s with
          rx := { s.rx with words := s.rx.words + (3 + m.body.length), messages := s.rx.messages + 1 }
          carry := { s.carry with messages := s.carry.messages ++ [m] } })) ∧
    (10 < msgBodyLength m ∨
        m.body.length = msgBodyLength m ∧ s.tracker.params.openCapacity < s.rx.words + (3 + m.body.length) →
      exec (.returningMessageArrival m) s = .next (State.finish
        { s with rx := { s.rx with phase := .discarding }, counters := (s.count .framingFault).counters }))) ∧
  (∀ (w : RxWord) (s : State), s.IsMasterInRound →
    (s.rx.phase = .openRegion ∨ s.rx.phase = .discarding →
      exec (.returningTrailerArrival w) s = .next (State.finish
        { s with rx := {}, carry := { s.carry with state := .complete }, counters := (checked w s s).counters })) ∧
    (s.rx.phase = .slots →
      exec (.returningTrailerArrival w) s = .next (State.finish
        { s with
          rx := {}
          carry := { s.carry with state := .complete, cells := filled s }
          counters := (checked w s (s.count .framingFault)).counters })) ∧
    (s.rx.phase = .absorbing → exec (.returningTrailerArrival w) s = .next (State.finish { s with rx := {} }))) ∧
  (∀ s : State, s.IsMasterInRound → s.inPort.link = .up → s.rx.phase = .slots → s.rx.slots < s.rx.slotCount →
    exec (.symbolReceived (.marker .trailer)) s = .next (State.finish
      { s with
        inPort := { s.inPort with errorRun := 0 }
        rx := { s.rx with slots := s.rx.slotCount, phase := .openRegion, collect := .trailer, buf := [], outsideRun := false }
        carry := { s.carry with cells := filled s }
        counters := (s.count .framingFault).counters })) ∧
  (∀ (i : Instr) (w0 w1 w2 : RxWord) (s : State), s.IsMasterInRound →
    i = .returningHeaderArrival w0 w1 w2 ∨ i = .roundHeaderArrival w0 w1 w2 ∨
      i = .symbolReceived (.marker .roundHeader) ∧ s.inPort.link = .up →
    (s.rx.phase = .openRegion ∨ s.rx.phase = .discarding →
      exec i s = exec i
        { s with rx := {}, carry := { s.carry with state := .complete }, counters := (s.count .framingFault).counters }) ∧
    (s.rx.phase = .slots →
      exec i s = exec i
        { s with
          rx := {}
          carry := { s.carry with state := .complete, cells := filled s }
          counters := (s.count .framingFault).counters }) ∧
    (s.rx.phase = .absorbing → exec i s = exec i { s with rx := {} })) ∧
  (∀ (c : RxCell) (m : RxMessage) (s : State), s.IsMasterInRound →
    s.rx.phase = .absorbing ∨ s.rx.phase = .outside ∨ s.rx.phase = .discarding →
    exec (.returningCellArrival c) s = .next s.finish ∧ exec (.returningMessageArrival m) s = .next s.finish) ∧
  ∀ (w : RxWord) (s : State), s.IsMasterInRound → s.rx.phase = .outside → exec (.returningTrailerArrival w) s = .next s.finish

/-- The round that the master sends: the stored cell of each slot is carried, by the table of R14, and handled as slot k, an
idle cell where none is stored; behind the slots the stored messages are handled in their order (R15); and with nothing left
to carry what waits is inserted (R133, ArbiterOffers) and a fresh trailer closes the round (R9, R11), with nothing to insert that
trailer alone. -/
def Obligations.MasterCarriesRound : Prop :=
  (∀ (c : RxCell) (s : State),
    s.carryCell c =
      if cellDamaged c then
        (idleCell, { s with counters := (s.count .carryCheckFail).counters, events := s.events.raise s.config .inputCheckFail })
      else if cellTag c = 0 then (idleCell, s)
      else if cellLap c then (idleCell, { s with counters := (s.count .lapExpired).counters })
      else (refreshCell { c with header := { c.header with value := c.header.value ||| 0x00004000#32 } }, s)) ∧
  ∀ s : State, s.IsMasterInRound → s.tx.active = true →
    (∀ x : RxCell, s.tx.slots < s.tracker.params.slotCount →
      let u : State := { s with tx := { s.tx with slots := s.tx.slots + 1 } }
      (s.tx.carryCells[s.tx.slots]? = none → exec (.slotEvent x) s = .next (u.handleSlot s.tx.slots idleCell).finish) ∧
      ∀ c : RxCell, s.tx.carryCells[s.tx.slots]? = some c →
        exec (.slotEvent x) s = .next ((u.carryCell c).2.handleSlot s.tx.slots (u.carryCell c).1).finish) ∧
    (s.tracker.params.slotCount ≤ s.tx.slots →
      (∀ (x m : RxMessage) (rest : List RxMessage), s.tx.carryMessages = m :: rest →
        exec (.messageArrival x) s = .next (({ s with tx := { s.tx with carryMessages := rest } } : State).handleMessage m).finish) ∧
      (s.tx.carryMessages = [] → ∀ w : RxWord,
        exec (.trailerArrival w) s = .next s.sendTrailer.finish ∧
        (s.nextOffer = none → exec (.trailerArrival w) s = .next (State.finish
          { s with
            tx := {}
            line := if s.outPort = .up then
                s.line ++ [buildTrailer (s.tracker.params.openCapacity - s.tx.words) s.tx.messages] else s.line }))))

/-! ### The Plan Store (chapter 3) -/

/-- The round plan of round n (R39, R41, R42, R44): step n mod L of the rotation; of a bank, its first SLOT_COUNT entries
with FOLLOW resolved to that bank's own default; PASS in every slot of a QUIET round. -/
def Obligations.RoundPlanBuilt : Prop :=
  ∀ (p : PlanStore) (n : RoundNo) (slotCount k : Nat) (h : n.toNat % p.rotation.length < 12), slotCount ≤ 48 → k < slotCount →
    let resolve (b : Bank) (e : PlanEntry) : PlanEntry := if e = .follow then b.dflt else e
    (p.rotation.steps[n.toNat % p.rotation.length] = .a →
      (p.build n slotCount).quiet = false ∧ (p.build n slotCount).actions.getD k .pass = resolve p.bankA (p.bankA.slots.toList.getD k .pass)) ∧
    (p.rotation.steps[n.toNat % p.rotation.length] = .b →
      (p.build n slotCount).quiet = false ∧ (p.build n slotCount).actions.getD k .pass = resolve p.bankB (p.bankB.slots.toList.getD k .pass)) ∧
    (p.rotation.steps[n.toNat % p.rotation.length] = .quiet →
      (p.build n slotCount).quiet = true ∧ (p.build n slotCount).actions.getD k .pass = .pass)

/-- The due commit at the round start of round n (R51, R52): every edit is written to its target in list order, the list is
emptied, the pending commit becomes NONE, COMMIT_APPLIED is raised, the round plan is built from the tables so changed, and
COMMIT_PASSED counts where an AT_TARGET commit's target has been passed over.  An edit writes its entry into its slot of its bank,
or its default of its bank, or the rotation, and nothing else (R45, R47). -/
def Obligations.CommitApplied : Prop :=
  (∀ (p : PlanStore) (k : Fin 48) (v : PlanEntry) (r : Rotation),
    p.applyEdit (.slot .a k v) = { p with bankA := { p.bankA with slots := p.bankA.slots.set k v } } ∧
    p.applyEdit (.slot .b k v) = { p with bankB := { p.bankB with slots := p.bankB.slots.set k v } } ∧
    p.applyEdit (.bankDefault .a v) = { p with bankA := { p.bankA with dflt := v } } ∧
    p.applyEdit (.bankDefault .b v) = { p with bankB := { p.bankB with dflt := v } } ∧
    p.applyEdit (.rotation r) = { p with rotation := r }) ∧
  ∀ s : State, s.tracker.tracking = .inRound → s.plan.commitDue = true → s.plan.commit ≠ .none →
    ∃ live : PlanStore, live = s.plan.edits.foldl PlanStore.applyEdit s.plan ∧
      exec .commitApplied s = .next (State.finish
        { s with
          plan :=
            { s.plan with
              bankA := live.bankA, bankB := live.bankB, rotation := live.rotation
              edits := [], commit := .none, commitDue := false
              roundPlan := some (live.build s.tracker.round s.tracker.params.slotCount) }
          events := s.events.raise s.config .commitApplied
          counters :=
            (match s.plan.commit with
              | .atTarget target => if target = s.tracker.round then s else s.count .commitPassed
              | _ => s).counters })

/-- An edit request (R47): refused COMMIT_PENDING while a commit is pending; an edit with the same target has its value
replaced and keeps its place; another is appended while fewer than 16 are held, and is refused EDIT_FULL otherwise.  The list
never comes to hold more than 16 edits, or two with the same target. -/
def Obligations.EditRequestTaken : Prop :=
  ∀ (p : PlanStore) (e : Edit),
    (p.commit ≠ .none → p.takeEdit e = (.commitPending, p)) ∧
    (p.commit = .none →
      ((∃ x ∈ p.edits, x.target = e.target) →
        p.takeEdit e = (.ok, { p with edits := p.edits.map fun x => if x.target = e.target then e else x })) ∧
      ((¬∃ x ∈ p.edits, x.target = e.target) →
        (p.edits.length < 16 → p.takeEdit e = (.ok, { p with edits := p.edits ++ [e] })) ∧
        (16 ≤ p.edits.length → p.takeEdit e = (.editFull, p)))) ∧
    (p.edits.length ≤ 16 → (p.edits.map Edit.target).Nodup →
      (p.takeEdit e).2.edits.length ≤ 16 ∧ ((p.takeEdit e).2.edits.map Edit.target).Nodup)

/-! ### Stream contexts at round starts and at the end of a drain (chapter 5) -/

/-- INSERT_DRAINED (R91), STALE_ASSEMBLY (R89) and CONTEXT_RESUME (R93), each in a state that makes it due: the drained
context goes to IDLE with its queue discarded and INSERT_DRAINED raised; a RUNNING drop-side context whose record's age has
reached 64 counts STALE, discards the record, sets resync pending and STALE_ASSEMBLY is raised; in IN_ROUND every HELD
context returns to its resume state, behind a RING_UP that is still to be raised (log entry 32), and no other context changes. -/
def Obligations.ContextStepsDue : Prop :=
  (∀ (i : Fin 16) (s : State), s.contexts[i].state = .draining → s.contexts[i].inFlight = false →
    exec (.insertDrained i) s = .next (State.finish
      { s with
        contexts := s.contexts.set i { s.contexts[i] with state := .idle, queue := [], cellsSent := 0 }
        events := s.events.raise s.config .insertDrained })) ∧
  (∀ (i : Fin 16) (a : Assembly) (s : State), s.contexts[i].state = .running → s.contexts[i].config.direction = .dropSide →
    s.contexts[i].assembly = some a → 64 ≤ a.age →
    exec (.staleAssembly i) s = .next (State.finish
      { s with
        contexts := s.contexts.set i { s.contexts[i].count .stale with assembly := none, resync := true }
        events := s.events.raise s.config .staleAssembly })) ∧
  ∀ s : State, s.tracker.tracking = .inRound →
    (∃ c ∈ s.contexts.toList, c.state = .held ∧ c.resume ≠ .none) →
    exec .contextResume s = .next (State.finish
      { s with
        contexts := s.contexts.map fun c =>
          if c.state = .held ∧ c.resume = .running then { c with state := .running, resume := .none }
          else if c.state = .held ∧ c.resume = .draining then { c with state := .draining, resume := .none }
          else c
        events :=
          if s.events.upDue = true then ({ s.events with upDue := false } : EventUnit).raise s.config .ringUp else s.events })

/-! ### Requests answered at their arrival (9.3, 9.5, 9.6) -/

/-- Where an outcome goes (R143, R145, R146, R147): a reply to a ring source fills a place with the source, the ring tag, the
status and the body; a SELF result fills a completion place with the reference; an applied request that is posted or came by
group has no reply, and a refusal of it is recorded; a reply whose place is lost is discarded.  A recorded failure fills an
empty capture or marks OVERRUN on a full one, and raises WRITE_FAILED. -/
def Obligations.OutcomeReported : Prop :=
  (∀ (e : WorkEntry) (id : Nat) (st : Status) (body : List Word) (mark : Option Release) (s : State),
    (e.origin = .unicast → e.source = .node id →
      s.fillReply e st body mark =
        { s with responder := { s.responder with
            replies := s.responder.replies ++ [{ dest := id, tag := e.tag, status := st, body := body, mark := mark }] } }) ∧
    (e.origin = .self →
      s.fillReply e st body mark =
        { s with port := { s.port with
            completions := s.port.completions ++ [{ ref := e.tag, status := BitVec.ofNat 8 (statusCode st), body := body }] } })) ∧
  (∀ (e : WorkEntry) (st : Status) (body : List Word) (index : Nat) (s : State),
    (e.kind = .writePosted ∨ e.origin = .group →
      State.report e (st, body, index, none, s) = if isRefusal st = true then s.recordFailure e index st else s) ∧
    (e.kind ≠ .writePosted → e.origin = .unicast →
      State.report e (st, body, index, none, s) = if e.place = true then s.fillReply e st body none else s) ∧
    (e.kind ≠ .writePosted → e.origin = .self → State.report e (st, body, index, none, s) = s.fillReply e st body none)) ∧
  ∀ (e : WorkEntry) (index : Nat) (st : Status) (w : Word) (more : List Word) (s : State), e.body = w :: more →
    let c : Capture :=
      { isCommand := e.kind = .command, code := bits w 31 24, index := if e.kind = .command then 0 else index
        source := e.source, tag := e.tag, reason := st }
    s.recordFailure e index st =
      { s with
        responder :=
          if s.responder.capture = none then { s.responder with capture := some c }
          else { s.responder with overrun := true }
        events := s.events.raise s.config .writeFailed }

/-- REQ_READ (R142) and REQ_SWAP (R156), each with a reply place.  A READ outside the spaces (R138), with a word count outside 1..10
or beyond its space is refused by that test's status, and is otherwise answered with its words in index order.  A SWAP beyond
the five words, at a node that is no holder, with a value that the word may not take, or whose compare value differs, leaves
the words; otherwise the word becomes the new value; a new value and a compare value are read whole (log entry 37).  What a word of
each space is (R138 to R140): 0 IDENTITY; 1 NODE_CONFIG; 2 PLAN_A and 3 PLAN_B, slot entries and default (R45); 4 ROTATION; 5
EDIT_LIST, the pending commit, the count, and target and value of each edit (R49); 6 CONTEXTS, configuration and two summaries (R75);
7 FILTERS (R102); 8 COUNTERS, the node's, the queue's and pool's levels, and the contexts' (R118); 9 EVENTS; 10 ALLOCATION; 11
CLAIM_AND_CAPTURE. -/
def Obligations.ReadAndSwapAnswered : Prop :=
  (∀ (e : WorkEntry) (rest : List WorkEntry) (s : State), s.AnswerDue e rest → e.origin ≠ .group → e.place = true →
    let u := s.unanswered rest
    (e.kind = .read →
      let answered (st : Status) (body : List Word) : Prop := s.Answers .reqRead .reqRead (u.fillReply e st body none)
      (spaceSize (reqSpace e.body) = none → answered .noSuchSpace []) ∧
      ∀ size : Nat, spaceSize (reqSpace e.body) = some size →
        (reqCount e.body = 0 ∨ 10 < reqCount e.body → answered .badRequest []) ∧
        (1 ≤ reqCount e.body ∧ reqCount e.body ≤ 10 →
          (size < reqIndex e.body + reqCount e.body → answered .outOfRange []) ∧
          (reqIndex e.body + reqCount e.body ≤ size →
            answered .ok ((List.range (reqCount e.body)).map fun k => u.readWord (reqSpace e.body) (reqIndex e.body + k))))) ∧
    (e.kind = .swap →
      let answered (st : Status) (body : List Word) (t : State) : Prop := s.Answers .reqSwap .reqSwap (t.fillReply e st body none)
      (5 ≤ bits (bodyWord e.body 0) 2 0 → answered .outOfRange [] u) ∧
      ∀ i : Fin 5, bits (bodyWord e.body 0) 2 0 = i.val →
        let old := s.responder.alloc[i]
        let new := bodyWord e.body 2
        let valid := (i = 0 → new.toNat ≤ s.tracker.params.slotCount) ∧ (i = 1 → new.getLsbD 0 = false) ∧
          (i = 4 → ∀ k : Nat, 25 ≤ k → k < 32 → new.getLsbD k = false)
        (s.responder.holder = false → answered .notHolder [] u) ∧
        (s.responder.holder = true →
          (¬valid → answered .badRequest [old] u) ∧
          (valid → old ≠ bodyWord e.body 1 → answered .compareFailed [old] u) ∧
          (valid → old = bodyWord e.body 1 →
            answered .ok [old] { u with responder := { u.responder with alloc := u.responder.alloc.set i new } })))) ∧
  ((List.range 12).map spaceSize =
      [some 8, some 8, some 49, some 49, some 1, some 34, some 48, some 16, some 211, some 1, some 5, some 9] ∧
    ∀ space : Nat, 12 ≤ space → spaceSize space = none) ∧
  (∀ s : State,
    s.readWord 0 0 = s.tracker.serial.setWidth 32 ∧ s.readWord 0 1 = (s.tracker.serial >>> 32).setWidth 32 ∧
    s.readWord 0 2 = 0x12D00001#32 ∧ s.readWord 0 3 = s.tracker.rank.setWidth 32 ∧
    s.readWord 0 4 = BitVec.ofNat 32 (s.tracker.nodeId.getD 127) ∧ s.readWord 0 5 = BitVec.ofNat 32 s.tracker.params.nodeCount ∧
    s.readWord 0 6 = s.tracker.epoch.setWidth 32 ∧
    s.readWord 0 7 = (field 2 0 (match s.tracker.tracking with
        | .down => 0 | .seeking => 1 | .enumerating => 2 | .inRound => 3 | .isolated => 4 | .unnumbered => 5) |||
      if s.tracker.role = .master then 0x10#32 else 0) ∧
    s.readWord 1 0 = (match s.config.target with | .node id => BitVec.ofNat 32 id | .local => 126 | .none => 127) ∧
    s.readWord 1 1 = s.config.enable.setWidth 32 ∧ s.readWord 1 2 = s.config.groups.setWidth 32 ∧
    s.readWord 1 3 = BitVec.ofNat 32 s.config.threshold ∧ s.readWord 1 4 = BitVec.ofNat 32 s.config.timeout ∧
    s.readWord 1 5 = (match s.config.period with | .us125 => 125 | .us250 => 250 | .us500 => 500 | .us1000 => 1000) ∧
    s.readWord 1 6 = BitVec.ofNat 32 s.config.slotCount ∧ s.readWord 1 7 = BitVec.ofNat 32 s.config.openCapacity) ∧
  (∀ (s : State) (word : PlanEntry → Word),
    (∀ e : PlanEntry, word e = match e with
      | .pass => 0
      | .tap c => field 31 29 1 ||| field 28 25 c.val
      | .drop c => field 31 29 2 ||| field 28 25 c.val
      | .insert c => field 31 29 3 ||| field 28 25 c.val
      | .blank => field 31 29 4
      | .follow => field 31 29 5) →
    (∀ k : Fin 48, s.readWord 2 k.val = word s.plan.bankA.slots[k] ∧ s.readWord 3 k.val = word s.plan.bankB.slots[k]) ∧
    s.readWord 2 48 = word s.plan.bankA.dflt ∧ s.readWord 3 48 = word s.plan.bankB.dflt ∧
    ∀ (r : Rotation → Word),
      (∀ x : Rotation, r x = (List.finRange 12).foldl (fun w k => w ||| field (2 * k.val + 1) (2 * k.val)
        (match x.steps[k] with | .a => 0 | .b => 1 | .quiet => 2)) (field 31 28 x.length)) →
      s.readWord 4 0 = r s.plan.rotation ∧
      s.readWord 5 0 = (match s.plan.commit with
        | .none => 0
        | .atTarget t => field 31 30 1 ||| field 15 0 t.toNat
        | .nextStart t => field 31 30 2 ||| field 15 0 t.toNat) ∧
      s.readWord 5 1 = BitVec.ofNat 32 s.plan.edits.length ∧
      ∀ k : Nat, k < 16 →
        (s.plan.edits[k]? = none → s.readWord 5 (2 + 2 * k) = 0 ∧ s.readWord 5 (3 + 2 * k) = 0) ∧
        ∀ e : Edit, s.plan.edits[k]? = some e →
          s.readWord 5 (2 + 2 * k) = (match e with
            | .slot .a j _ => field 31 30 1 ||| field 5 0 j.val
            | .slot .b j _ => field 31 30 1 ||| 0x20000000#32 ||| field 5 0 j.val
            | .bankDefault .a _ => field 31 30 2
            | .bankDefault .b _ => field 31 30 2 ||| 0x20000000#32
            | .rotation _ => field 31 30 3) ∧
          s.readWord 5 (3 + 2 * k) = (match e with
            | .slot _ _ v => word v
            | .bankDefault _ v => word v
            | .rotation x => r x)) ∧
  (∀ (s : State) (i : Fin 16) (c : Context), c = s.contexts[i] →
    s.readWord 6 (3 * i.val) =
      (field 31 30 (match c.config.direction with | .dropSide => 0 | .insertSide => 1 | .code2 => 2 | .code3 => 3) |||
        field 29 23 c.config.tag.toNat ||| field 22 19 ((c.config.filterA.map Fin.val).getD 15) |||
        field 18 15 ((c.config.filterB.map Fin.val).getD 15) |||
        field 14 12 (match c.config.combine with | .any => 0 | .all => 1 | .none => 2 | .notAll => 3)) ∧
    s.readWord 6 (3 * i.val + 1) =
      (field 31 29 (match c.state with | .idle => 0 | .armed => 1 | .running => 2 | .draining => 3 | .held => 4) |||
        field 28 27 (match c.resume with | .none => 0 | .running => 1 | .draining => 2) |||
        field 3 0 ((c.seq.map BitVec.toNat).getD 8)) ∧
    s.readWord 6 (3 * i.val + 2) =
      (if c.config.direction = .insertSide then
        field 31 28 c.cellsSent ||| (if c.inFlight = true then 0x08000000#32 else 0) ||| field 2 0 c.queue.length
      else
        field 31 27 ((c.assembly.map Assembly.cells).getD 0) |||
          (if ∃ a : Assembly, c.assembly = some a ∧ a.rejected = true then 0x04000000#32 else 0) |||
          (if c.resync = true then 0x02000000#32 else 0)) ∧
    ∀ k : Fin 11, s.readWord 8 (35 + 11 * i.val + k.val) = c.counters[k].setWidth 32) ∧
  (∀ (s : State) (i : Fin 8),
    s.readWord 7 (2 * i.val) = s.filters[i].pattern ∧ s.readWord 7 (2 * i.val + 1) = s.filters[i].mask) ∧
  (∀ s : State,
    (∀ i : Fin 32, s.readWord 8 i.val = s.counters[i].setWidth 32) ∧
    s.readWord 8 32 = BitVec.ofNat 32 s.drop.records.length ∧ s.readWord 8 33 = BitVec.ofNat 32 (dropOccupancy s.drop) ∧
    s.readWord 8 34 = BitVec.ofNat 32 s.poolOccupancy ∧ s.readWord 9 0 = s.events.pending.setWidth 32 ∧
    (∀ i : Fin 5, s.readWord 10 i.val = s.responder.alloc[i]) ∧
    s.readWord 11 0 = BitVec.ofNat 32 (s.responder.claim.holder.getD 127) ∧
    s.readWord 11 1 = BitVec.ofNat 32 s.responder.claim.lease ∧
    s.readWord 11 2 = (if s.responder.holder = true then 1 else 0) ∧
    (s.responder.capture = none →
      s.readWord 11 3 = (if s.responder.overrun = true then 2 else 0) ∧
      ∀ k : Nat, 4 ≤ k → k < 9 → s.readWord 11 k = 0) ∧
    ∀ c : Capture, s.responder.capture = some c →
      s.readWord 11 3 = (if s.responder.overrun = true then 3 else 1) ∧
      s.readWord 11 4 = (BitVec.ofNat 32 c.code ||| if c.isCommand = true then 0x100#32 else 0) ∧
      s.readWord 11 5 = BitVec.ofNat 32 c.index ∧
      s.readWord 11 6 = (match c.source with | .node id => BitVec.ofNat 32 id | .self => 126) ∧
      s.readWord 11 7 = BitVec.ofNat 32 c.tag ∧ s.readWord 11 8 = BitVec.ofNat 32 (statusCode c.reason))

/-- CLAIM, RENEW and RELEASE from a node (R152), with a reply place or by group: the table of claims, a requested lease clipped into
16..4096; the reply carries the holder and the lease as the command leaves them, and of a command that came by group a refusal is
recorded and nothing is sent (R147).  A CLAIM from SELF is WRONG_STATE. -/
def Obligations.ClaimCommandsAnswered : Prop :=
  ∀ (e : WorkEntry) (rest : List WorkEntry) (s : State), s.AnswerDue e rest → e.origin = .group ∨ e.place = true →
    let c := s.responder.claim
    let lease := max 16 (min 4096 (reqOperand e.body))
    (e.IsCommand 1 → e.source = .self → s.Answers .claim .claim (s.claimAnswered e rest .wrongState c)) ∧
    ∀ id : Nat, e.source = .node id →
      (e.IsCommand 1 →
        (c.holder = none ∨ c.holder = some id →
          s.Answers .claim .claim (s.claimAnswered e rest .ok { holder := some id, lease := lease })) ∧
        ((∃ h, c.holder = some h ∧ h ≠ id) → s.Answers .claim .claim (s.claimAnswered e rest .notOwner c))) ∧
      (e.IsCommand 2 →
        (c.holder = none → s.Answers .renew .renew (s.claimAnswered e rest .wrongState c)) ∧
        (c.holder = some id → s.Answers .renew .renew (s.claimAnswered e rest .ok { holder := some id, lease := lease })) ∧
        ((∃ h, c.holder = some h ∧ h ≠ id) → s.Answers .renew .renew (s.claimAnswered e rest .notOwner c))) ∧
      (e.IsCommand 3 →
        (c.holder = none → s.Answers .release .release (s.claimAnswered e rest .wrongState c)) ∧
        (c.holder = some id → s.Answers .release .release (s.claimAnswered e rest .ok { holder := none, lease := 0 })) ∧
        ((∃ h, c.holder = some h ∧ h ≠ id) → s.Answers .release .release (s.claimAnswered e rest .notOwner c)))

/-! ### Commands applied from the work queue (9.4) -/

/-- COMMIT_PLAN (R50) and CANCEL_COMMIT (R54) at their application, by their tables; nothing but the pending commit, and for a
cancellation the event, is changed.  A ring restart that the Plan Store handles (R55) leaves no pending commit, raising
COMMIT_CANCELLED if there was one, and no round plan; the edit list and the live tables are kept. -/
def Obligations.CommitCommandsApplied : Prop :=
  (∀ (e : WorkEntry) (rest : List WorkEntry) (s : State), s.HeadDue e rest →
    let u := s.popped rest
    let n := s.tracker.round
    let target := BitVec.ofNat 16 (reqOperand e.body)
    let body : List Word := [field 31 16 n.toNat ||| field 4 0 s.plan.edits.length]
    (e.IsCommand 4 →
      (s.tracker.tracking ≠ .inRound → exec .commitPlan s = .next (u.applied e .wrongState []).finish) ∧
      (s.tracker.tracking = .inRound →
        (s.plan.commit ≠ .none → exec .commitPlan s = .next (u.applied e .commitPending []).finish) ∧
        (s.plan.commit = .none →
          (1 ≤ (target - n).toNat ∧ (target - n).toNat ≤ 32767 →
            exec .commitPlan s = .next (State.finish
              (({ u with plan := { u.plan with commit := .atTarget target } } : State).applied e .ok body))) ∧
          (¬(1 ≤ (target - n).toNat ∧ (target - n).toNat ≤ 32767) →
            exec .commitPlan s = .next (State.finish
              (({ u with plan := { u.plan with commit := .nextStart target } } : State).applied e .late body)))))) ∧
    (e.IsCommand 5 →
      (s.plan.commit = .none → exec .cancelCommit s = .next (u.applied e .wrongState []).finish) ∧
      ∀ r : RoundNo, s.plan.commit = .atTarget r ∨ s.plan.commit = .nextStart r →
        exec .cancelCommit s = .next (State.finish
          (({ u with
              plan := { u.plan with commit := .none, commitDue := false }
              events := u.events.raise u.config .commitCancelled } : State).applied e .ok [field 15 0 r.toNat])))) ∧
  ∀ s : State,
    (Work.ready .planRestart s = true ↔ s.plan.restartDue = true) ∧
    Work.perform .planRestart s =
      { s with
        plan := { s.plan with restartDue := false, commitDue := false, commit := .none, roundPlan := none }
        events := if s.plan.commit = .none then s.events else s.events.raise s.config .commitCancelled }

/-- START_CONTEXT (R76, R77) at its application: a number above 15 is OUT_OF_RANGE; outside IDLE it is WRONG_STATE; a stream
tag outside 1..120 or an unassigned direction is BAD_CONFIG; otherwise the context is ARMED as its side says.  The reply body
carries the state after the command. -/
def Obligations.StartContextApplied : Prop :=
  ∀ (e : WorkEntry) (rest : List WorkEntry) (s : State), s.HeadDue e rest → e.IsCommand 6 →
    let u := s.popped rest
    (15 < reqOperand e.body → exec .startContext s = .next (u.applied e .outOfRange []).finish) ∧
    ∀ i : Fin 16, reqOperand e.body = i.val →
      let c := s.contexts[i]
      (c.state ≠ .idle → exec .startContext s = .next (u.applied e .wrongState []).finish) ∧
      (c.state = .idle →
        (c.config.tag.toNat = 0 ∨ 120 < c.config.tag.toNat ∨ c.config.direction = .code2 ∨ c.config.direction = .code3 →
          exec .startContext s = .next (u.applied e .badConfig []).finish) ∧
        (1 ≤ c.config.tag.toNat → c.config.tag.toNat ≤ 120 →
          (c.config.direction = .dropSide →
            exec .startContext s = .next (State.finish
              (({ u with contexts := u.contexts.set i { c with state := .armed, seq := none, assembly := none, resync := false } } :
                State).applied e .ok [field 31 29 1 ||| field 28 27 (resumeCode c.resume)]))) ∧
          (c.config.direction = .insertSide →
            exec .startContext s = .next (State.finish
              (({ u with contexts := u.contexts.set i { c with state := .armed, seq := some 0, cellsSent := 0, inFlight := false } } :
                State).applied e .ok [field 31 29 1 ||| field 28 27 (resumeCode c.resume)])))))

/-- STOP_CONTEXT (R78, R79) and HALT_CONTEXT (R80) at their application: a number above 15 is OUT_OF_RANGE; a drop-side context
goes to IDLE with its record, sequence and resync pending given up; an insert-side one goes to IDLE with its queue discarded,
but a STOP with a record in flight begins to drain, or from HELD will drain.  That a context of an unassigned direction ends as a
drop-side one is the model's choice (log entry 35). -/
def Obligations.StopAndHaltApplied : Prop :=
  ∀ (e : WorkEntry) (rest : List WorkEntry) (s : State), s.HeadDue e rest →
    let u := s.popped rest
    let ended (c : Context) : Context :=
      if c.config.direction = .insertSide then
        { c with state := .idle, resume := .none, queue := [], cellsSent := 0, inFlight := false }
      else { c with state := .idle, resume := .none, assembly := none, seq := none, resync := false }
    (e.IsCommand 7 → 15 < reqOperand e.body → exec .stopContext s = .next (u.applied e .outOfRange []).finish) ∧
    (e.IsCommand 8 → 15 < reqOperand e.body → exec .haltContext s = .next (u.applied e .outOfRange []).finish) ∧
    ∀ i : Fin 16, reqOperand e.body = i.val →
      let c := s.contexts[i]
      let leaving (d : Context) : State :=
        ({ u with contexts := u.contexts.set i d } : State).applied e .ok
          [field 31 29 (ctxStateCode d.state) ||| field 28 27 (resumeCode d.resume)]
      (e.IsCommand 7 →
        (c.config.direction ≠ .insertSide ∨ c.inFlight = false → exec .stopContext s = .next (leaving (ended c)).finish) ∧
        (c.config.direction = .insertSide → c.inFlight = true →
          (c.state = .running → exec .stopContext s = .next (leaving { c with state := .draining }).finish) ∧
          (c.state = .draining → exec .stopContext s = .next (leaving c).finish) ∧
          (c.state = .held → exec .stopContext s = .next (leaving { c with resume := .draining }).finish))) ∧
      (e.IsCommand 8 → exec .haltContext s = .next (leaving (ended c)).finish)

/-- FLUSH_DROP_QUEUE (R109), CLEAR_EVENTS (R148, R178), CLEAR_COUNTERS in its three forms (R148), TAKE_HOLDER and DROP_HOLDER
(R154, R155) at their application.  A CLEAR_EVENTS that leaves no event both pending and enabled leaves the reminder count at 0
(R176, R178), out of IN_ROUND too (log entry 40).  That a CLEAR_COUNTERS of the unassigned form 3 is refused in the row of form NODE is the model's
choice (log entry 25). -/
def Obligations.ClearAndHolderCommandsApplied : Prop :=
  ∀ (e : WorkEntry) (rest : List WorkEntry) (s : State), s.HeadDue e rest →
    let u := s.popped rest
    (e.IsCommand 9 → ∀ kept : List DropRec, kept = (if s.drop.inTransfer = true then s.drop.records.take 1 else []) →
      exec .flushDropQueue s = .next (State.finish
        (({ u with
            drop := { u.drop with records := kept }
            counters := (u.countN .dropRecordsFlushed (s.drop.records.length - kept.length)).counters } : State).applied e .ok
          [field 31 24 (s.drop.records.length - kept.length) |||
            field 15 0 (dropOccupancy s.drop - (kept.map dropCharge).sum)]))) ∧
    (e.IsCommand 10 → ∀ set : BitVec 16, set = BitVec.ofNat 16 (reqOperand e.body) →
      exec .clearEvents s = .next (State.finish
        (({ u with
            events :=
              { u.events with
                pending := u.events.pending &&& ~~~set
                reminder :=
                  if s.events.pending &&& ~~~set &&& s.config.enable = 0 then 0
                  else s.events.reminder }
            responder :=
              if set.getLsbD 8 = true then { u.responder with capture := none, overrun := false } else u.responder } :
          State).applied e .ok []))) ∧
    (e.IsClear 0 →
      exec .clearCountersNode s =
        .next (State.finish (({ u with counters := Vector.replicate 32 0 } : State).applied e .ok []))) ∧
    (e.IsClear 1 →
      (15 < reqOperand e.body → exec .clearCountersContext s = .next (u.applied e .outOfRange []).finish) ∧
      ∀ i : Fin 16, reqOperand e.body = i.val →
        exec .clearCountersContext s = .next (State.finish
          (({ u with contexts := u.contexts.set i { s.contexts[i] with counters := Vector.replicate 11 0 } } : State).applied e .ok []))) ∧
    (e.IsClear 2 →
      exec .clearCountersAll s = .next (State.finish
        (({ u with
            counters := Vector.replicate 32 0
            contexts := u.contexts.map fun c => { c with counters := Vector.replicate 11 0 } } : State).applied e .ok []))) ∧
    (e.IsClear 3 → exec .clearCountersNode s = .next (u.applied e .badRequest []).finish) ∧
    (e.IsCommand 12 →
      exec .takeHolder s = .next (State.finish
        (if s.responder.holder = true then u.applied e .wrongState []
        else
          ({ u with responder := { u.responder with
              holder := true, alloc := #v[BitVec.ofNat 32 s.tracker.params.slotCount, 0, 0, 0, 0] } } : State).applied e .ok []))) ∧
    (e.IsCommand 13 →
      exec .dropHolder s = .next (State.finish
        (if s.responder.holder = true then
          ({ u with responder := { u.responder with holder := false } } : State).applied e .ok []
        else u.applied e .wrongState [])))

/-- RESTART_RING and NODE_RESET at their application (R149): answered OK, and released later.  From the ring unicast the
filled place carries the release mark; from SELF the release waits for the end of the work queue beside the completion. -/
def Obligations.ReleasedCommandsApplied : Prop :=
  ∀ (e : WorkEntry) (rest : List WorkEntry) (s : State) (i : Instr) (r : Release), s.HeadDue e rest → e.kind = .command →
    (i = .restartRing ∧ r = .restartRing ∧ reqCommand e.body = 14 ∨ i = .nodeReset ∧ r = .nodeReset ∧ reqCommand e.body = 15) →
    let u := s.popped rest
    (∀ id : Nat, e.origin = .unicast → e.place = true → e.source = .node id →
      exec i s = .next (State.finish
        { u with responder := { u.responder with
            replies := u.responder.replies ++ [{ dest := id, tag := e.tag, status := .ok, body := [], mark := some r }] } })) ∧
    (e.origin = .self →
      exec i s = .next (State.finish
        { u with
          port := { u.port with completions := u.port.completions ++ [{ ref := e.tag, status := 0, body := [] }] }
          responder := { u.responder with releases := u.responder.releases ++ [r] } })) ∧
    (e.origin = .group → s.tracker.tracking = .inRound →
      exec i s = .next (State.finish { u with responder := { u.responder with releases := u.responder.releases ++ [r] } }))

/-- SOFT_RESET (R158 and the rules it names): the trunk ports, the tracker, the carry store, the reception and the emission are
kept; every other block takes its defaults, but for a drop record in transfer, the GIVE_RESULTs, the filled completions, the
frame in transfer and a round plan that is PASS for the rest of its round; the table's entries and the SELF requests
complete ABANDONED, in an order that is the model's choice (log entry 21).  A RING_UP or RING_LATE that its round start has still to
raise comes after it (log entry 32). -/
def Obligations.SoftResetValues : Prop :=
  (∀ s : State, s.softReset =
      { s with
        plan := { roundPlan := s.plan.roundPlan.map fun p =>
            { quiet := false, actions := List.replicate p.actions.length .pass } }
        contexts := Vector.replicate 16 {}
        filters := Vector.replicate 8 { pattern := 0, mask := 0 }
        drop := if s.drop.inTransfer then { records := s.drop.records.take 1, inTransfer := true } else {}
        responder := {}
        config :=
          { target := .local, enable := 0, groups := 0, threshold := 4096, timeout := 32, period := .us250
            slotCount := 48, openCapacity := 192 }
        originator := []
        port := { s.port with
          completions := s.port.completions ++ (s.originator.map fun e => { ref := e.ref, status := 24, body := [] }) ++
            ((s.responder.work.filter fun e => e.origin == .self && e.kind != .writePosted) ++
              s.responder.answering.filter fun e => e.origin == .self).map fun e => { ref := e.tag, status := 24, body := [] }
          notice := none }
        events := { pending := 0, notice := .idle, reminder := 0, upDue := s.events.upDue, lateDue := s.events.lateDue }
        counters := Vector.replicate 32 0 }) ∧
  ∀ s : State, s.responder.applyDue = 0 → Release.nodeReset ∈ s.responder.releases →
    ¬Release.restartRing ∈ s.responder.releases → s.plan.restartDue = false → exec .softReset s = .next s.softReset.finish

/-! ### Writes applied from the work queue (9.4) -/

/-- A write at its application (R145), whatever its row — WRITE_PLAN_EDIT, WRITE_CONTEXT_CONFIG, WRITE_FILTERS,
WRITE_NOTICE_TARGET, WRITE_ENABLE_SET, WRITE_GROUP_MEMBERSHIP, WRITE_DROP_THRESHOLD, WRITE_REGISTER; which row a write is
follows from its space and first index (log entry 25): refused whole by the first check that fails, with its first index; else
its words are handed on in ascending index order and it stops at the first refused word, with that word's index recorded and
in the body; the words before it stay applied.  Writable are every index of NODE_CONFIG, the two banks, ROTATION and FILTERS, and
of CONTEXTS the configuration words (R138). -/
def Obligations.WritesApplied : Prop :=
  (∀ (i : Instr) (e : WorkEntry) (rest : List WorkEntry) (s : State), s.HeadDue e rest → e.kind ≠ .command →
    (i = .writePlanEdit ∧ writeRow e.body = .writePlanEdit ∨ i = .writeContextConfig ∧ writeRow e.body = .writeContextConfig ∨
      i = .writeFilters ∧ writeRow e.body = .writeFilters ∨ i = .writeNoticeTarget ∧ writeRow e.body = .writeNoticeTarget ∨
      i = .writeEnableSet ∧ writeRow e.body = .writeEnableSet ∨ i = .writeGroupMembership ∧ writeRow e.body = .writeGroupMembership ∨
      i = .writeDropThreshold ∧ writeRow e.body = .writeDropThreshold ∨ i = .writeRegister ∧ writeRow e.body = .writeRegister) →
    let u := s.popped rest
    (∀ st : Status, writeCheck e.body = some st → exec i s = .next (State.report e (st, [], reqIndex e.body, none, u)).finish) ∧
    (writeCheck e.body = none →
      ∀ (st : Status) (k : Nat) (t : State), u.writeWords (reqSpace e.body) (reqIndex e.body) (reqData e.body) = (st, k, t) →
        (st = .ok → exec i s = .next (t.applied e .ok []).finish) ∧
        (st ≠ .ok → exec i s = .next (State.report e (st, [field 7 0 k], k, none, t)).finish))) ∧
  (∀ (space i : Nat) (s : State), s.writeWords space i [] = (.ok, i, s)) ∧
  (∀ (space i : Nat) (w : Word) (ws : List Word) (st : Status) (s t : State), s.writeWord space i w = (st, t) →
    (st = .ok → s.writeWords space i (w :: ws) = t.writeWords space (i + 1) ws) ∧
    (st ≠ .ok → s.writeWords space i (w :: ws) = (st, i, t))) ∧
  (∀ space index : Nat, indexWritable space index = true ↔
    1 ≤ space ∧ space ≤ 4 ∨ space = 6 ∧ index % 3 = 0 ∨ space = 7) ∧
  (∀ body : List Word, 11 < reqSpace body → writeCheck body = some .noSuchSpace) ∧
  ∀ (body : List Word) (size : Nat), spaceSize (reqSpace body) = some size →
    (body.length ≤ 1 → writeCheck body = some .badRequest) ∧
    (1 < body.length →
      (size < reqIndex body + (body.length - 1) → writeCheck body = some .outOfRange) ∧
      (reqIndex body + (body.length - 1) ≤ size →
        ((∀ k : Nat, k < body.length - 1 → indexWritable (reqSpace body) (reqIndex body + k) = true) → writeCheck body = none) ∧
        (¬(∀ k : Nat, k < body.length - 1 → indexWritable (reqSpace body) (reqIndex body + k) = true) →
          writeCheck body = some .readOnly)))

/-- One word of a write at the owner of its space: NODE_CONFIG takes the values of its ranges (R139, R107, R121, R175), the notice
target NONE ending a due notice, and an enable set that leaves no event both pending and enabled ending the reminder count
(R176, log entry 40); a context's configuration is taken in IDLE, and its queue is discarded where the direction
changes (R75, R100); a filter unit takes a pattern or a mask (R102); a plan entry, a bank default other than FOLLOW and a legal
rotation record are edit requests (R46, R47).  What a word means (12.3): an action code 6 or 7 is no plan entry, one that names no
context is read without its context bits (log entry 17); a length of 0 or above 12 or a step code 3 is no rotation record (R40); a
filter reference 8 to 14 or a combine code above 3 is no configuration (R100). -/
def Obligations.WrittenWordTaken : Prop :=
  ∀ (w : Word) (s : State),
    (∀ id : Nat, id ≤ 59 → w.toNat = id →
      s.writeWord 1 0 w = (.ok, { s with config := { s.config with target := .node id } })) ∧
    (w.toNat = 126 → s.writeWord 1 0 w = (.ok, { s with config := { s.config with target := .local } })) ∧
    (w.toNat = 127 → s.writeWord 1 0 w =
      (.ok, { s with
        config := { s.config with target := .none }
        events := { s.events with notice := .idle, reminder := 0 } })) ∧
    (59 < w.toNat → w.toNat ≠ 126 → w.toNat ≠ 127 → s.writeWord 1 0 w = (.badRequest, s)) ∧
    s.writeWord 1 1 w =
      (.ok, { s with
        config := { s.config with enable := w.setWidth 16 }
        events := { s.events with
          reminder :=
            if s.events.pending &&& w.setWidth 16 = 0 then 0 else s.events.reminder } }) ∧
    s.writeWord 1 2 w = (.ok, { s with config := { s.config with groups := w.setWidth 16 } }) ∧
    s.writeWord 1 3 w =
      (if 256 ≤ w.toNat ∧ w.toNat ≤ 8192 ∧ w.toNat % 4 = 0 then
        (.ok, { s with config := { s.config with threshold := w.toNat } }) else (.badRequest, s)) ∧
    s.writeWord 1 4 w =
      (if 4 ≤ w.toNat ∧ w.toNat ≤ 255 then (.ok, { s with config := { s.config with timeout := w.toNat } })
      else (.badRequest, s)) ∧
    (∀ p : Period, w.toNat = periodMicros p → s.writeWord 1 5 w = (.ok, { s with config := { s.config with period := p } })) ∧
    ((∀ p : Period, w.toNat ≠ periodMicros p) → s.writeWord 1 5 w = (.badRequest, s)) ∧
    s.writeWord 1 6 w =
      (if 1 ≤ w.toNat ∧ w.toNat ≤ 48 then (.ok, { s with config := { s.config with slotCount := w.toNat } })
      else (.badRequest, s)) ∧
    s.writeWord 1 7 w =
      (if 32 ≤ w.toNat ∧ w.toNat ≤ 480 then (.ok, { s with config := { s.config with openCapacity := w.toNat } })
      else (.badRequest, s)) ∧
    (∀ i : Fin 16,
      let c := s.contexts[i]
      (∀ g : CtxConfig, ctxConfigOf w = some g →
        (c.state = .idle → s.writeWord 6 (3 * i.val) w =
          (.ok, { s with
            contexts := s.contexts.set i
              { c with config := g, queue := if g.direction = c.config.direction then c.queue else [] } })) ∧
        (c.state ≠ .idle → s.writeWord 6 (3 * i.val) w = (.wrongState, s))) ∧
      (ctxConfigOf w = none → c.state = .idle → s.writeWord 6 (3 * i.val) w = (.badRequest, s))) ∧
    (∀ u : Fin 8,
      s.writeWord 7 (2 * u.val) w = (.ok, { s with filters := s.filters.set u { s.filters[u] with pattern := w } }) ∧
      s.writeWord 7 (2 * u.val + 1) w = (.ok, { s with filters := s.filters.set u { s.filters[u] with mask := w } })) ∧
    (∀ (bk : BankId) (e : PlanEntry), planEntryOf w = some e →
      let space := if bk = .a then 2 else 3
      (∀ k : Fin 48, s.writeWord space k.val w = ((s.plan.takeEdit (.slot bk k e)).1, { s with plan := (s.plan.takeEdit (.slot bk k e)).2 })) ∧
      (e ≠ .follow →
        s.writeWord space 48 w = ((s.plan.takeEdit (.bankDefault bk e)).1, { s with plan := (s.plan.takeEdit (.bankDefault bk e)).2 })) ∧
      (e = .follow → s.writeWord space 48 w = (.badRequest, s))) ∧
    (∀ (space index : Nat), space = 2 ∨ space = 3 → planEntryOf w = none → s.writeWord space index w = (.badRequest, s)) ∧
    (∀ r : Rotation, rotationOf w = some r →
      s.writeWord 4 0 w = ((s.plan.takeEdit (.rotation r)).1, { s with plan := (s.plan.takeEdit (.rotation r)).2 })) ∧
    (rotationOf w = none → s.writeWord 4 0 w = (.badRequest, s)) ∧
    (planEntryOf w = none ↔ 6 ≤ bits w 31 29) ∧
    (bits w 31 29 = 0 → planEntryOf w = some .pass) ∧ (bits w 31 29 = 4 → planEntryOf w = some .blank) ∧
    (bits w 31 29 = 5 → planEntryOf w = some .follow) ∧
    (∀ c : Fin 16, bits w 28 25 = c.val →
      (bits w 31 29 = 1 → planEntryOf w = some (.tap c)) ∧ (bits w 31 29 = 2 → planEntryOf w = some (.drop c)) ∧
      (bits w 31 29 = 3 → planEntryOf w = some (.insert c))) ∧
    (rotationOf w = none ↔
      bits w 31 28 = 0 ∨ 12 < bits w 31 28 ∨ ∃ k : Fin 12, bits w (2 * k.val + 1) (2 * k.val) = 3) ∧
    (∀ r : Rotation, rotationOf w = some r → r.length = bits w 31 28 ∧
      ∀ k : Fin 12, (match r.steps[k] with | .a => 0 | .b => 1 | .quiet => 2) = bits w (2 * k.val + 1) (2 * k.val)) ∧
    (ctxConfigOf w = none ↔
      8 ≤ bits w 22 19 ∧ bits w 22 19 ≠ 15 ∨ 8 ≤ bits w 18 15 ∧ bits w 18 15 ≠ 15 ∨ 4 ≤ bits w 14 12) ∧
    ∀ g : CtxConfig, ctxConfigOf w = some g →
      (match g.direction with | .dropSide => 0 | .insertSide => 1 | .code2 => 2 | .code3 => 3) = bits w 31 30 ∧
      g.tag.toNat = bits w 29 23 ∧ (g.filterA.map Fin.val).getD 15 = bits w 22 19 ∧
      (g.filterB.map Fin.val).getD 15 = bits w 18 15 ∧
      (match g.combine with | .any => 0 | .all => 1 | .none => 2 | .notAll => 3) = bits w 14 12

/-! ### Events, and what a round start makes due (9.5, 10.3, 11.2) -/

/-- An event raised (R174): one not pending becomes pending, and makes the notice DUE where it is enabled and the target is not
NONE; one that is pending changes nothing; no other event is touched; and two raises come to the same in either order. -/
def Obligations.EventRaised : Prop :=
  ∀ (e : Event) (s : State),
    (s.events.pending.getLsbD e.bit = true → s.raise e = s) ∧
    (s.events.pending.getLsbD e.bit = false →
      ∃ p : BitVec 16, (∀ k : Nat, k < 16 → p.getLsbD k = (s.events.pending.getLsbD k || k == e.bit)) ∧
        s.raise e = { s with events :=
          { s.events with
            pending := p
            notice := if s.config.enable.getLsbD e.bit = true ∧ s.config.target ≠ .none then .due else s.events.notice } }) ∧
    ∀ f : Event, (s.raise e).raise f = (s.raise f).raise e

/-- CLAIM_EXPIRED (R153), TRANSACTION_TIMEOUT (R170) and NOTICE_REMINDER (R176), each in a state that makes it due; and the
RING_UP or RING_LATE that a round start has still to raise, a step among the due ones, so that the part takes it in either order with
them (R176, R178; log entry 32). -/
def Obligations.RoundStartStepsDue : Prop :=
  (∀ s : State, s.responder.claim.holder ≠ none → s.responder.claim.lease = 0 →
    exec .claimExpired s = .next (State.finish
      { s with
        responder := { s.responder with claim := { holder := none, lease := 0 } }
        events := s.events.raise s.config .claimExpired })) ∧
  (∀ (tag : Fin 32) (e : OrigEntry) (s : State), (s.originator.map OrigEntry.tag).Nodup → e ∈ s.originator → e.tag = tag.val →
    e.sent = true → e.remaining = 0 →
    exec (.transactionTimeout tag) s = .next (State.finish
      { s with
        originator := s.originator.filter fun x => x.tag != tag.val
        port := { s.port with completions := s.port.completions ++ [{ ref := e.ref, status := 21, body := [] }] } })) ∧
  (∀ s : State,
    (s.events.upDue = true →
      (s.responder.answering = [] → Work.raiseUp ∈ s.due) ∧
      Work.raiseUp.perform s = { s with events := ({ s.events with upDue := false } : EventUnit).raise s.config .ringUp }) ∧
    (s.events.lateDue = true →
      (s.responder.answering = [] → Work.raiseLate ∈ s.due) ∧
      Work.raiseLate.perform s = { s with events := ({ s.events with lateDue := false } : EventUnit).raise s.config .ringLate }) ∧
    (s.events.upDue = false → Work.raiseUp ∉ s.due) ∧ (s.events.lateDue = false → Work.raiseLate ∉ s.due)) ∧
  ∀ s : State, s.events.startDue = true →
    exec .noticeReminder s = .next (State.finish
      { s with events :=
        if s.events.pending &&& s.config.enable ≠ 0 ∧ s.config.target ≠ .none then
          if s.events.reminder + 1 < 512 then { s.events with startDue := false, reminder := s.events.reminder + 1 }
          else { s.events with startDue := false, reminder := 0, notice := .due }
        else { s.events with startDue := false, reminder := 0 } })

/-! ### The Tributary Port (chapters 7 and 10) -/

/-- INSERT_RECORD decided (R111, R112, R160): the first test that fails gives the status, and the offer is counted as refused; a
record that passes them all joins the tail of its context's queue.  Either way one GIVE_RESULT waits. -/
def Obligations.InsertRecordDecided : Prop :=
  ∀ (f : List Half) (s : State), s.resetAsserted = false → s.port.giveResults.length < 4 → s.port.stalled = [] →
    2 ≤ f.length → giveKind f = 1 →
    let answered (st : Status) (t : State) : State :=
      { t with port := { t.port with giveResults := t.port.giveResults ++ [{ ref := giveRef f, kind := 1, status := st }] } }
    let refused (st : Status) : State := answered st { s with counters := (s.count .insertOffersRefused).counters }
    let lengthFits := 1 ≤ giveLength f ∧ giveLength f ≤ 384 ∧ f.length % 2 = 0 ∧ (frameBody f).length = (giveLength f + 3) / 4
    (15 < giveContext f → exec (.insertRecord f) s = .next (refused .badRequest).finish) ∧
    ∀ i : Fin 16, giveContext f = i.val →
      let c := s.contexts[i]
      (¬lengthFits → exec (.insertRecord f) s = .next (refused .badLength).finish) ∧
      (lengthFits →
        (c.config.direction ≠ .insertSide → exec (.insertRecord f) s = .next (refused .notInsertSide).finish) ∧
        (c.config.direction = .insertSide →
          (c.state = .draining → exec (.insertRecord f) s = .next (refused .wrongState).finish) ∧
          (c.state ≠ .draining →
            (4 ≤ c.queue.length → exec (.insertRecord f) s = .next (refused .queueFull).finish) ∧
            (c.queue.length < 4 →
              (4096 - s.poolOccupancy < 4 + (giveLength f + 3) / 4 * 4 →
                exec (.insertRecord f) s = .next (refused .poolFull).finish) ∧
              (4 + (giveLength f + 3) / 4 * 4 ≤ 4096 - s.poolOccupancy →
                exec (.insertRecord f) s = .next (State.finish (answered .ok
                  { s with contexts := s.contexts.set i { c with queue := c.queue ++ [{ payload := recordBytes f }] } })))))))

/-- LOCAL_REQUEST decided (R160, R165, R166): the first test that fails gives the status; a request for SELF or for the node's own
ID is handed to the Responder; any other becomes a table entry that awaits room, with the lowest ring tag not in use.  The Responder
answers BUSY_RETRY where it cannot take a request, and the request leaves no trace there.  What taking is, for SELF and for the ring
(R141, R143, R151): a body length that does not fit the kind, or an unassigned command code, is refused BAD_REQUEST (with an empty
body, log entry 38); a READ, a SWAP and the claim commands wait for their answer with a reply place reserved; a write or another
command is refused NOT_OWNER while another than its source holds the claim, and is enqueued otherwise: a confirmed write or command
with a reply place reserved, a posted write with WRITE_ACCEPTED filled in it.  Each needs one of the three reply places free, and an
entry that is enqueued one of the four of the work queue. -/
def Obligations.LocalRequestDecided : Prop :=
  (∀ (f : List Half) (s : State), s.resetAsserted = false → s.port.giveResults.length < 4 → s.port.stalled = [] →
    2 ≤ f.length → giveKind f = 2 →
    let answered (st : Status) : State :=
      { s with port := { s.port with giveResults := s.port.giveResults ++ [{ ref := giveRef f, kind := 2, status := st }] } }
    let body := frameBody f
    let self := giveDest f = 126 ∨ s.tracker.nodeId = some (giveDest f)
    (5 ≤ giveReqKind f → exec (.localRequest f) s = .next (answered .badRequest).finish) ∧
    ∀ k : ReqKind, reqKindCode k = giveReqKind f →
      let shaped := isTrunkDest (giveDest f) = true ∨ giveDest f = 126
      let fits := giveBodyLength f ≤ 10 ∧ giveBodyLength f = body.length ∧ f.length % 2 = 0 ∧
        (k = .read → body.length = 1 ∧ 1 ≤ reqCount body ∧ reqCount body ≤ 8)
      (¬(shaped ∧ fits) → exec (.localRequest f) s = .next (answered .badRequest).finish) ∧
      (shaped → fits →
        (¬self → s.tracker.tracking ≠ .inRound → exec (.localRequest f) s = .next (answered .ringDown).finish) ∧
        (self ∨ s.tracker.tracking = .inRound →
          (s.freeCompletions = 0 ∨ ¬self ∧ 4 ≤ s.originator.length →
            exec (.localRequest f) s = .next (answered .tableFull).finish) ∧
          (s.freeCompletions ≠ 0 →
            (self → exec (.localRequest f) s = .next (State.finish ((answered .ok).handSelf
              { kind := k, origin := .self, source := s.selfSource, tag := giveRef f, place := false, body := body }))) ∧
            (¬self → s.originator.length < 4 →
              ∃ tag : Nat, (∀ e ∈ s.originator, e.tag ≠ tag) ∧ (∀ x : Nat, x < tag → ∃ e ∈ s.originator, e.tag = x) ∧
                exec (.localRequest f) s = .next (State.finish
                  { answered .ok with
                    originator := s.originator ++
                      [{ ref := giveRef f, tag := tag, dest := giveDest f, kind := k, body := body, sent := false, remaining := 0 }] })))))) ∧
  (∀ (e : WorkEntry) (s : State),
    (∀ t : State, s.take e = some t → s.handSelf e = t) ∧
    (s.take e = none →
      s.handSelf e = { s with port := { s.port with
        completions := s.port.completions ++ [{ ref := e.tag, status := 2, body := [] }] } }) ∧
    (s.selfSource = match s.tracker.nodeId with | some id => .node id | none => .self)) ∧
  (∀ (e : WorkEntry) (s : State),
    let code := bits (bodyWord e.body 0) 31 24
    let owner := s.responder.claim.holder = none ∨ ∃ h : Nat, s.responder.claim.holder = some h ∧ e.source = .node h
    let fits := match e.kind with
      | .read => e.body.length = 1
      | .swap => e.body.length = 3
      | .command => e.body.length = 1
      | _ => 1 ≤ e.body.length ∧ e.body.length ≤ 10
    (¬fits → s.classify e = .refuse .badRequest) ∧
    (fits →
      (e.kind = .read ∨ e.kind = .swap ∨ e.kind = .command ∧ 1 ≤ code ∧ code ≤ 3 → s.classify e = .answer) ∧
      (e.kind = .command → code = 0 ∨ 15 < code → s.classify e = .refuse .badRequest) ∧
      (e.kind = .writePosted ∨ e.kind = .writeConfirmed ∨ e.kind = .command ∧ 4 ≤ code ∧ code ≤ 15 →
        (owner → s.classify e = .enqueue) ∧ (¬owner → s.classify e = .refuse .notOwner)))) ∧
  ∀ (e : WorkEntry) (s : State),
    let room := s.responder.replies.length + (s.responder.work.filter WorkEntry.place).length +
      (s.responder.answering.filter WorkEntry.place).length < 3
    let queued (x : WorkEntry) (t : State) : State :=
      { t with responder := { t.responder with
          work := s.responder.work ++ [x]
          applyDue := if s.tracker.tracking = .inRound then s.responder.applyDue else s.responder.work.length + 1 } }
    (¬room → s.take e = none) ∧
    (room →
      (s.classify e = .answer → s.take e = some
        { s with responder := { s.responder with answering := s.responder.answering ++ [{ e with place := true }] } }) ∧
      (∀ st : Status, s.classify e = .refuse st → s.take e = some (s.fillReply e st [] none)) ∧
      (s.classify e = .enqueue →
        (4 ≤ s.responder.work.length → s.take e = none) ∧
        (s.responder.work.length < 4 →
          (e.kind = .writePosted →
            s.take e = some (queued { e with place := false } (s.fillReply e .writeAccepted [] none))) ∧
          (e.kind ≠ .writePosted → s.take e = some (queued { e with place := true } s)))))

/-- The Give lane otherwise (R160, R161): a frame of another kind is refused BAD_REQUEST; one that ends before its header word is
whole, or never ends, leaves no trace; and while 4 GIVE_RESULTs wait, or RESET# is asserted (R159), or an earlier frame stands there,
no frame is taken and it stands on the lane.  Once GREADY is high the part takes the oldest of those that stand there (R161): it
leaves the lane and is decided as a frame given on a free lane is, and the others stand as they stood. -/
def Obligations.GiveLane : Prop :=
  (∀ (s : State), Work.unstall ∈ s.due ↔
    s.responder.answering = [] ∧ s.resetAsserted = false ∧ s.port.giveResults.length < 4 ∧ s.port.stalled ≠ []) ∧
  (∀ (f : List Half) (rest : List (List Half)) (s u : State), s.port.stalled = f :: rest →
    u = { s with port := { s.port with stalled := [] } } →
    Work.unstall.perform s = { u.decideGive f with port := { (u.decideGive f).port with stalled := rest } } ∧
    (s.resetAsserted = false → s.port.giveResults.length < 4 →
      ∀ i : Instr, i = .insertRecord f ∨ i = .localRequest f ∨ i = .giveFrameUnknown f →
      exec i u = .next (u.decideGive f).finish)) ∧
  ∀ (f : List Half) (s : State),
    exec (.giveFrameAbort f) s = .next s.finish ∧
    (s.resetAsserted = false → s.port.giveResults.length < 4 → s.port.stalled = [] →
      (f.length < 2 → exec (.giveFrameUnknown f) s = .next s.finish) ∧
      (2 ≤ f.length → giveKind f ≠ 1 → giveKind f ≠ 2 →
        exec (.giveFrameUnknown f) s = .next (State.finish
          { s with port := { s.port with
              giveResults := s.port.giveResults ++ [{ ref := giveRef f, kind := giveKind f, status := .badRequest }] } }))) ∧
    (4 ≤ s.port.giveResults.length ∨ s.resetAsserted = true ∨ s.port.stalled ≠ [] →
      ∀ i : Instr, i = .insertRecord f ∨ i = .localRequest f ∨ i = .giveFrameUnknown f →
      exec i s = .next (State.finish { s with port := { s.port with stalled := s.port.stalled ++ [f] } }))

/-- TAKE_FRAME_START and TAKE_FRAME_END (R108, R162, R163, R164, R177): with no frame in transfer the first that waits begins, in
the order GIVE_RESULT, COMPLETION, own notice, received notice, drop record, and waits no longer; at its last word the transfer
ends, and a drop record then leaves its queue and DROP_RECORDS_TAKEN counts.  What the lane carries (R159, R182): each word as two
transfers, bits 31:16 first, KFIRST with the first transfer of the frame and KLAST with its last; the start takes the first of them
and the end the rest (log entries 4 and 24).  KVALID is high while a frame waits or is in transfer, and then the next transfer is on
KD; ATTN is high while a frame waits, which a second drop record behind one in transfer does (log entry 29); GREADY is high while
fewer than 4 GIVE_RESULTs wait; all are low while RESET# is asserted.  What waits is given too.  That bits 23:16 of a drop record's header are 0 is the model's choice (log entry 39). -/
def Obligations.TakeLane : Prop :=
  (∀ s : State, s.resetAsserted = false →
    let began (p : Port) (k : TakeKind) (ws : List Word) : Port :=
      { p with transfer := some { kind := k, words := ws, place := 1 }, lane := p.lane ++ (laneTransfers ws).take 1 }
    (s.port.transfer = none →
      (∀ (g : GiveResult) (rest : List GiveResult), s.port.giveResults = g :: rest →
        exec .takeFrameStart s = .next (State.finish
          { s with port := began { s.port with giveResults := rest } .giveResult (giveResultWords g) })) ∧
      (s.port.giveResults = [] →
        (∀ (c : Completion) (rest : List Completion), s.port.completions = c :: rest →
          exec .takeFrameStart s = .next (State.finish
            { s with port := began { s.port with completions := rest } .completion (completionWords c) })) ∧
        (s.port.completions = [] →
          (s.ownNoticeWaits = true →
            exec .takeFrameStart s = .next (State.finish
              { s with
                port := began s.port .ownNotice (noticeWords 126 s.events.pending s.tracker.round)
                events := { s.events with notice := .idle, reminder := 0 } })) ∧
          (s.ownNoticeWaits = false →
            (∀ n : ReceivedNotice, s.port.notice = some n →
              exec .takeFrameStart s = .next (State.finish
                { s with port := began { s.port with notice := none } .receivedNotice (noticeWords n.source n.pending n.round) })) ∧
            (s.port.notice = none →
              (∀ (r : DropRec) (rest : List DropRec), s.drop.records = r :: rest → s.drop.inTransfer = false →
                exec .takeFrameStart s = .next (State.finish
                  { s with
                    port := began s.port .dropRecord (dropRecordWords r)
                    drop := { s.drop with inTransfer := true } })) ∧
              (s.drop.records = [] → exec .takeFrameStart s = .next s.finish)))))) ∧
    ∀ f : TakeFrame, s.port.transfer = some f →
      exec .takeFrameStart s = .next s.finish ∧
      (f.kind ≠ .dropRecord →
        exec .takeFrameEnd s = .next (State.finish
          { s with port := { s.port with transfer := none, lane := s.port.lane ++ (laneTransfers f.words).drop f.place } })) ∧
      (f.kind = .dropRecord →
        exec .takeFrameEnd s = .next (State.finish
          { s with
            port := { s.port with transfer := none, lane := s.port.lane ++ (laneTransfers f.words).drop f.place }
            drop := { records := s.drop.records.drop 1, inTransfer := false }
            counters := (s.count .dropRecordsTaken).counters }))) ∧
  (∀ ws : List Word, (laneTransfers ws).length = 2 * ws.length ∧
    ∀ (k : Nat) (w : Word), ws[k]? = some w →
      (laneTransfers ws)[2 * k]? = some { data := (w >>> 16).setWidth 16, first := k == 0, last := false } ∧
      (laneTransfers ws)[2 * k + 1]? = some { data := w.setWidth 16, first := false, last := k + 1 == ws.length }) ∧
  (∀ s : State,
    (s.takeChoice ≠ none ↔
      s.port.giveResults ≠ [] ∨ s.port.completions ≠ [] ∨ s.ownNoticeWaits = true ∨ s.port.notice ≠ none ∨
        (if s.drop.inTransfer = true then 1 else 0) < s.drop.records.length) ∧
    (s.ownNoticeWaits = true ↔ s.events.notice = .due ∧
      (s.config.target = .local ∨ ∃ id : Nat, s.config.target = .node id ∧ s.tracker.nodeId = some id))) ∧
  ∀ s : State,
    (s.kvalid = true ↔ s.resetAsserted = false ∧ (s.takeChoice ≠ none ∨ s.port.transfer ≠ none)) ∧
    (s.attn = true ↔ s.resetAsserted = false ∧ s.takeChoice ≠ none) ∧
    (s.gready = true ↔ s.resetAsserted = false ∧ s.port.giveResults.length < 4) ∧
    (s.resetAsserted = false →
      (∀ f : TakeFrame, s.port.transfer = some f → s.laneDriven = (laneTransfers f.words)[f.place]?) ∧
      ∀ k : TakeKind, s.port.transfer = none → s.takeChoice = some k → s.laneDriven = (laneTransfers (s.takeWords k)).head?)

/-! ### Invariants that every step keeps -/

/-- Every step keeps every store within the spec's limits (R47, R105, R110, R144, R161, R164). -/
def Obligations.LimitsKept : Prop := ∀ s t : State, s.Limits → step s = .next t → t.Limits

/-- Every step keeps the plan tables legal and the round plan resolved (R39, R40, R46). -/
def Obligations.PlanLegalKept : Prop := ∀ s t : State, s.PlanLegal → step s = .next t → t.PlanLegal

/-- Every step keeps the tracker legal, and DOWN exactly while the input link is not UP (R1, R4, R20, R22). -/
def Obligations.TrackerLegalKept : Prop := ∀ s t : State, s.TrackerLegal → step s = .next t → t.TrackerLegal

/-- The machine right after reset meets the three invariants. -/
def Obligations.ResetMeetsInvariants : Prop := State.reset.Limits ∧ State.reset.PlanLegal ∧ State.reset.TrackerLegal
end

