-- ==== Sys2Proof/Laws/Checks.lean ====
section
/-!
SUPPORT. What the checks of R182 say of the structures that the part itself builds.
-/

namespace Sys2Proof.Machine

open Sys2Proof

theorem field_byte (x : BitVec 8) : field 7 0 x.toNat = x.setWidth 32 := by
  apply BitVec.eq_of_toNat_eq
  have := x.isLt
  simp [field, Nat.mod_eq_of_lt this]

/-- A fresh check in bits 7:0 leaves the covered bits 31:8 alone. -/
theorem wordBits_refresh (v : Word) (x : BitVec 8) : wordBits ((v &&& 0xFFFFFF00#32) ||| x.setWidth 32) 8 = wordBits v 8 := by
  unfold wordBits
  apply List.map_congr_left
  intro i hi
  have h : i < 24 := by simpa using hi
  have hm : (0xFFFFFF00#32).getMsbD i = true := by
    have : ∀ j : Fin 24, (0xFFFFFF00#32).getMsbD j.val = true := by decide
    exact this ⟨i, h⟩
  have hx : (x.setWidth 32).getMsbD i = false := by
    rw [BitVec.getMsbD_eq_getLsbD, BitVec.getLsbD_setWidth]
    simp [BitVec.getLsbD_of_ge x (32 - 1 - i) (by omega)]
  simp [BitVec.getMsbD_or, BitVec.getMsbD_and, hm, hx]

theorem byte_refresh (v : Word) (x : BitVec 8) : BitVec.ofNat 8 (bits ((v &&& 0xFFFFFF00#32) ||| x.setWidth 32) 7 0) = x := by
  apply BitVec.eq_of_getLsbD_eq
  intro i hi
  have hm : (0xFFFFFF00#32).getLsbD i = false := by
    have : ∀ j : Fin 8, (0xFFFFFF00#32).getLsbD j.val = false := by decide
    exact this ⟨i, hi⟩
  have : BitVec.ofNat 8 (bits ((v &&& 0xFFFFFF00#32) ||| x.setWidth 32) 7 0) = ((v &&& 0xFFFFFF00#32) ||| x.setWidth 32).setWidth 8 := by
    generalize (v &&& 0xFFFFFF00#32) ||| x.setWidth 32 = y
    apply BitVec.eq_of_toNat_eq
    simp [bits]
  rw [this, BitVec.getLsbD_setWidth, BitVec.getLsbD_or, BitVec.getLsbD_and, hm, BitVec.getLsbD_setWidth]
  simp [hi, show i < 32 by omega]

theorem shift_refresh (v : Word) (x : BitVec 8) : ((v &&& 0xFFFFFF00#32) ||| x.setWidth 32) >>> 8 = v >>> 8 := by
  apply BitVec.eq_of_getLsbD_eq
  intro i hi
  rw [BitVec.getLsbD_ushiftRight, BitVec.getLsbD_ushiftRight, BitVec.getLsbD_or, BitVec.getLsbD_and, BitVec.getLsbD_setWidth,
    BitVec.getLsbD_of_ge x (8 + i) (by omega)]
  have hm : i < 24 → (0xFFFFFF00#32).getLsbD (8 + i) = true := by
    have : ∀ j : Fin 24, (0xFFFFFF00#32).getLsbD (8 + j.val) = true := by decide
    exact fun h => this ⟨i, h⟩
  by_cases h : i < 24
  · simp [hm h]
  · simp [BitVec.getLsbD_of_ge v (8 + i) (by omega)]

/-- The fields above a fresh check are those of the word below it. -/
theorem bits_refresh (v : Word) (x : BitVec 8) (hi lo : Nat) (h : 8 ≤ lo) :
    bits ((v &&& 0xFFFFFF00#32) ||| x.setWidth 32) hi lo = bits v hi lo := by
  have hs : ∀ w : Word, w.toNat >>> lo = (w >>> 8).toNat >>> (lo - 8) := by
    intro w
    rw [BitVec.toNat_ushiftRight, ← Nat.shiftRight_add]
    congr 1; omega
  simp only [bits]
  rw [hs, shift_refresh, ← hs]

/-- A fresh check changes no header field. -/
theorem bits_refreshCell (c : RxCell) (hi lo : Nat) (h : 8 ≤ lo) :
    bits (refreshCell c).header.value hi lo = bits c.header.value hi lo := by
  simp only [refreshCell]
  rw [field_byte, bits_refresh _ _ _ _ h]

/-- A cell with a fresh check and no coding error is not DAMAGED (R58, R59). -/
theorem refreshCell_not_damaged (c : RxCell) (h : cellCodingError c = false) : cellDamaged (refreshCell c) = false := by
  have h1 : cellCodingError (refreshCell c) = cellCodingError c := rfl
  have h2 : cellCrc (refreshCell c) = cellCrc c := by
    simp only [cellCrc, refreshCell]
    rw [field_byte, wordBits_refresh]
  have h3 : cellCheck (refreshCell c) = cellCrc c := by
    simp only [cellCheck, refreshCell]
    rw [field_byte, byte_refresh]
  simp [cellDamaged, h1, h, h2, h3]

/-- A cell that the part builds is not DAMAGED. -/
theorem buildCell_not_damaged (tag : Nat) (seq : BitVec 3) (boundary fill : Nat) (p : List Byte) :
    cellDamaged (buildCell tag seq boundary fill p) = false := by
  apply refreshCell_not_damaged
  simp only [cellCodingError, sendWord, Bool.false_or, List.any_eq_false]
  intro w hw
  obtain ⟨i, hi, rfl⟩ := List.mem_iff_getElem.mp hw
  simp
/-- The stream tag of a cell that the part builds. -/
theorem cellTag_buildCell (tag : Nat) (seq : BitVec 3) (boundary fill : Nat) (p : List Byte) :
    cellTag (buildCell tag seq boundary fill p) =
      bits (field 31 25 tag ||| field 24 22 seq.toNat ||| field 21 20 boundary ||| field 19 15 fill) 31 25 := by
  simp only [cellTag, buildCell]
  rw [bits_refreshCell _ _ _ (by omega)]
  rfl

/-- The idle cell that a node sends is not DAMAGED, and its stream tag is 0 (R59). -/
theorem idleCell_not_damaged : cellDamaged idleCell = false := buildCell_not_damaged _ _ _ _ _
theorem cellTag_idleCell : cellTag idleCell = 0 := by
  unfold idleCell; rw [cellTag_buildCell]; decide

/-- A message that the part builds is good. -/
theorem sealMessage_good (w0 w1 : Word) (body : List Word) : msgGood (sealMessage w0 w1 body) = true := by
  have hb : body.map ((·.value) ∘ sendWord) = body := by
    rw [show ((·.value) ∘ sendWord) = id from rfl, List.map_id]
  simp only [msgGood, crc32Good, sealMessage, List.map_cons, List.map_map, hb]
  simp [sendWord]

end Sys2Proof.Machine
end

