-- ==== Sys2Proof/Laws/State.lean ====
section
/-!
SUPPORT. One lemma for each field that an operation leaves alone: later proofs cite them and never unfold a record update.
-/

namespace Sys2Proof.Machine

open Sys2Proof

/-! ### countN -/

@[simp] theorem State.countN_resetAsserted (c : NodeCounter) (n : Nat) (s : State) : (s.countN c n).resetAsserted = s.resetAsserted := rfl
@[simp] theorem State.countN_inPort (c : NodeCounter) (n : Nat) (s : State) : (s.countN c n).inPort = s.inPort := rfl
@[simp] theorem State.countN_outPort (c : NodeCounter) (n : Nat) (s : State) : (s.countN c n).outPort = s.outPort := rfl
@[simp] theorem State.countN_tracker (c : NodeCounter) (n : Nat) (s : State) : (s.countN c n).tracker = s.tracker := rfl
@[simp] theorem State.countN_rx (c : NodeCounter) (n : Nat) (s : State) : (s.countN c n).rx = s.rx := rfl
@[simp] theorem State.countN_tx (c : NodeCounter) (n : Nat) (s : State) : (s.countN c n).tx = s.tx := rfl
@[simp] theorem State.countN_carry (c : NodeCounter) (n : Nat) (s : State) : (s.countN c n).carry = s.carry := rfl
@[simp] theorem State.countN_plan (c : NodeCounter) (n : Nat) (s : State) : (s.countN c n).plan = s.plan := rfl
@[simp] theorem State.countN_contexts (c : NodeCounter) (n : Nat) (s : State) : (s.countN c n).contexts = s.contexts := rfl
@[simp] theorem State.countN_filters (c : NodeCounter) (n : Nat) (s : State) : (s.countN c n).filters = s.filters := rfl
@[simp] theorem State.countN_drop (c : NodeCounter) (n : Nat) (s : State) : (s.countN c n).drop = s.drop := rfl
@[simp] theorem State.countN_responder (c : NodeCounter) (n : Nat) (s : State) : (s.countN c n).responder = s.responder := rfl
@[simp] theorem State.countN_config (c : NodeCounter) (n : Nat) (s : State) : (s.countN c n).config = s.config := rfl
@[simp] theorem State.countN_originator (c : NodeCounter) (n : Nat) (s : State) : (s.countN c n).originator = s.originator := rfl
@[simp] theorem State.countN_port (c : NodeCounter) (n : Nat) (s : State) : (s.countN c n).port = s.port := rfl
@[simp] theorem State.countN_events (c : NodeCounter) (n : Nat) (s : State) : (s.countN c n).events = s.events := rfl
@[simp] theorem State.countN_line (c : NodeCounter) (n : Nat) (s : State) : (s.countN c n).line = s.line := rfl
@[simp] theorem State.countN_choice (c : NodeCounter) (n : Nat) (s : State) : (s.countN c n).choice = s.choice := rfl
@[simp] theorem State.countN_unknowns (c : NodeCounter) (n : Nat) (s : State) : (s.countN c n).unknowns = s.unknowns := rfl
@[simp] theorem State.countN_pending (c : NodeCounter) (n : Nat) (s : State) : (s.countN c n).pending = s.pending := rfl
@[simp] theorem State.countN_inRound (c : NodeCounter) (n : Nat) (s : State) : (s.countN c n).inRound = s.inRound := by simp [State.inRound]
@[simp] theorem State.countN_isMaster (c : NodeCounter) (n : Nat) (s : State) : (s.countN c n).isMaster = s.isMaster := by simp [State.isMaster]

/-! ### count -/

@[simp] theorem State.count_resetAsserted (c : NodeCounter) (s : State) : (s.count c).resetAsserted = s.resetAsserted := rfl
@[simp] theorem State.count_inPort (c : NodeCounter) (s : State) : (s.count c).inPort = s.inPort := rfl
@[simp] theorem State.count_outPort (c : NodeCounter) (s : State) : (s.count c).outPort = s.outPort := rfl
@[simp] theorem State.count_tracker (c : NodeCounter) (s : State) : (s.count c).tracker = s.tracker := rfl
@[simp] theorem State.count_rx (c : NodeCounter) (s : State) : (s.count c).rx = s.rx := rfl
@[simp] theorem State.count_tx (c : NodeCounter) (s : State) : (s.count c).tx = s.tx := rfl
@[simp] theorem State.count_carry (c : NodeCounter) (s : State) : (s.count c).carry = s.carry := rfl
@[simp] theorem State.count_plan (c : NodeCounter) (s : State) : (s.count c).plan = s.plan := rfl
@[simp] theorem State.count_contexts (c : NodeCounter) (s : State) : (s.count c).contexts = s.contexts := rfl
@[simp] theorem State.count_filters (c : NodeCounter) (s : State) : (s.count c).filters = s.filters := rfl
@[simp] theorem State.count_drop (c : NodeCounter) (s : State) : (s.count c).drop = s.drop := rfl
@[simp] theorem State.count_responder (c : NodeCounter) (s : State) : (s.count c).responder = s.responder := rfl
@[simp] theorem State.count_config (c : NodeCounter) (s : State) : (s.count c).config = s.config := rfl
@[simp] theorem State.count_originator (c : NodeCounter) (s : State) : (s.count c).originator = s.originator := rfl
@[simp] theorem State.count_port (c : NodeCounter) (s : State) : (s.count c).port = s.port := rfl
@[simp] theorem State.count_events (c : NodeCounter) (s : State) : (s.count c).events = s.events := rfl
@[simp] theorem State.count_line (c : NodeCounter) (s : State) : (s.count c).line = s.line := rfl
@[simp] theorem State.count_choice (c : NodeCounter) (s : State) : (s.count c).choice = s.choice := rfl
@[simp] theorem State.count_unknowns (c : NodeCounter) (s : State) : (s.count c).unknowns = s.unknowns := rfl
@[simp] theorem State.count_pending (c : NodeCounter) (s : State) : (s.count c).pending = s.pending := rfl
@[simp] theorem State.count_inRound (c : NodeCounter) (s : State) : (s.count c).inRound = s.inRound := by simp [State.inRound]
@[simp] theorem State.count_isMaster (c : NodeCounter) (s : State) : (s.count c).isMaster = s.isMaster := by simp [State.isMaster]

/-! ### raise -/

@[simp] theorem State.raise_resetAsserted (e : Event) (s : State) : (s.raise e).resetAsserted = s.resetAsserted := rfl
@[simp] theorem State.raise_inPort (e : Event) (s : State) : (s.raise e).inPort = s.inPort := rfl
@[simp] theorem State.raise_outPort (e : Event) (s : State) : (s.raise e).outPort = s.outPort := rfl
@[simp] theorem State.raise_tracker (e : Event) (s : State) : (s.raise e).tracker = s.tracker := rfl
@[simp] theorem State.raise_rx (e : Event) (s : State) : (s.raise e).rx = s.rx := rfl
@[simp] theorem State.raise_tx (e : Event) (s : State) : (s.raise e).tx = s.tx := rfl
@[simp] theorem State.raise_carry (e : Event) (s : State) : (s.raise e).carry = s.carry := rfl
@[simp] theorem State.raise_plan (e : Event) (s : State) : (s.raise e).plan = s.plan := rfl
@[simp] theorem State.raise_contexts (e : Event) (s : State) : (s.raise e).contexts = s.contexts := rfl
@[simp] theorem State.raise_filters (e : Event) (s : State) : (s.raise e).filters = s.filters := rfl
@[simp] theorem State.raise_drop (e : Event) (s : State) : (s.raise e).drop = s.drop := rfl
@[simp] theorem State.raise_responder (e : Event) (s : State) : (s.raise e).responder = s.responder := rfl
@[simp] theorem State.raise_config (e : Event) (s : State) : (s.raise e).config = s.config := rfl
@[simp] theorem State.raise_originator (e : Event) (s : State) : (s.raise e).originator = s.originator := rfl
@[simp] theorem State.raise_port (e : Event) (s : State) : (s.raise e).port = s.port := rfl
@[simp] theorem State.raise_counters (e : Event) (s : State) : (s.raise e).counters = s.counters := rfl
@[simp] theorem State.raise_line (e : Event) (s : State) : (s.raise e).line = s.line := rfl
@[simp] theorem State.raise_choice (e : Event) (s : State) : (s.raise e).choice = s.choice := rfl
@[simp] theorem State.raise_unknowns (e : Event) (s : State) : (s.raise e).unknowns = s.unknowns := rfl
@[simp] theorem State.raise_pending (e : Event) (s : State) : (s.raise e).pending = s.pending := rfl
@[simp] theorem State.raise_inRound (e : Event) (s : State) : (s.raise e).inRound = s.inRound := by simp [State.inRound]
@[simp] theorem State.raise_isMaster (e : Event) (s : State) : (s.raise e).isMaster = s.isMaster := by simp [State.isMaster]

/-! ### startUp -/

@[simp] theorem State.startUp_resetAsserted (s : State) : s.startUp.resetAsserted = s.resetAsserted := rfl
@[simp] theorem State.startUp_inPort (s : State) : s.startUp.inPort = s.inPort := rfl
@[simp] theorem State.startUp_outPort (s : State) : s.startUp.outPort = s.outPort := rfl
@[simp] theorem State.startUp_tracker (s : State) : s.startUp.tracker = s.tracker := rfl
@[simp] theorem State.startUp_rx (s : State) : s.startUp.rx = s.rx := rfl
@[simp] theorem State.startUp_tx (s : State) : s.startUp.tx = s.tx := rfl
@[simp] theorem State.startUp_carry (s : State) : s.startUp.carry = s.carry := rfl
@[simp] theorem State.startUp_plan (s : State) : s.startUp.plan = s.plan := rfl
@[simp] theorem State.startUp_contexts (s : State) : s.startUp.contexts = s.contexts := rfl
@[simp] theorem State.startUp_filters (s : State) : s.startUp.filters = s.filters := rfl
@[simp] theorem State.startUp_drop (s : State) : s.startUp.drop = s.drop := rfl
@[simp] theorem State.startUp_responder (s : State) : s.startUp.responder = s.responder := rfl
@[simp] theorem State.startUp_config (s : State) : s.startUp.config = s.config := rfl
@[simp] theorem State.startUp_originator (s : State) : s.startUp.originator = s.originator := rfl
@[simp] theorem State.startUp_port (s : State) : s.startUp.port = s.port := rfl
@[simp] theorem State.startUp_counters (s : State) : s.startUp.counters = s.counters := rfl
@[simp] theorem State.startUp_line (s : State) : s.startUp.line = s.line := rfl
@[simp] theorem State.startUp_unknowns (s : State) : s.startUp.unknowns = s.unknowns := rfl
@[simp] theorem State.startUp_pending (s : State) : s.startUp.pending = s.pending := rfl
@[simp] theorem State.startUp_inRound (s : State) : s.startUp.inRound = s.inRound := by simp [State.inRound]
@[simp] theorem State.startUp_isMaster (s : State) : s.startUp.isMaster = s.isMaster := by simp [State.isMaster]

/-! ### startLate -/

@[simp] theorem State.startLate_resetAsserted (s : State) : s.startLate.resetAsserted = s.resetAsserted := rfl
@[simp] theorem State.startLate_inPort (s : State) : s.startLate.inPort = s.inPort := rfl
@[simp] theorem State.startLate_outPort (s : State) : s.startLate.outPort = s.outPort := rfl
@[simp] theorem State.startLate_tracker (s : State) : s.startLate.tracker = s.tracker := rfl
@[simp] theorem State.startLate_rx (s : State) : s.startLate.rx = s.rx := rfl
@[simp] theorem State.startLate_tx (s : State) : s.startLate.tx = s.tx := rfl
@[simp] theorem State.startLate_carry (s : State) : s.startLate.carry = s.carry := rfl
@[simp] theorem State.startLate_plan (s : State) : s.startLate.plan = s.plan := rfl
@[simp] theorem State.startLate_contexts (s : State) : s.startLate.contexts = s.contexts := rfl
@[simp] theorem State.startLate_filters (s : State) : s.startLate.filters = s.filters := rfl
@[simp] theorem State.startLate_drop (s : State) : s.startLate.drop = s.drop := rfl
@[simp] theorem State.startLate_responder (s : State) : s.startLate.responder = s.responder := rfl
@[simp] theorem State.startLate_config (s : State) : s.startLate.config = s.config := rfl
@[simp] theorem State.startLate_originator (s : State) : s.startLate.originator = s.originator := rfl
@[simp] theorem State.startLate_port (s : State) : s.startLate.port = s.port := rfl
@[simp] theorem State.startLate_counters (s : State) : s.startLate.counters = s.counters := rfl
@[simp] theorem State.startLate_line (s : State) : s.startLate.line = s.line := rfl
@[simp] theorem State.startLate_unknowns (s : State) : s.startLate.unknowns = s.unknowns := rfl
@[simp] theorem State.startLate_pending (s : State) : s.startLate.pending = s.pending := rfl
@[simp] theorem State.startLate_inRound (s : State) : s.startLate.inRound = s.inRound := by simp [State.inRound]
@[simp] theorem State.startLate_isMaster (s : State) : s.startLate.isMaster = s.isMaster := by simp [State.isMaster]

/-! ### takeUp -/

@[simp] theorem State.takeUp_resetAsserted (s : State) : s.takeUp.resetAsserted = s.resetAsserted := rfl
@[simp] theorem State.takeUp_inPort (s : State) : s.takeUp.inPort = s.inPort := rfl
@[simp] theorem State.takeUp_outPort (s : State) : s.takeUp.outPort = s.outPort := rfl
@[simp] theorem State.takeUp_tracker (s : State) : s.takeUp.tracker = s.tracker := rfl
@[simp] theorem State.takeUp_rx (s : State) : s.takeUp.rx = s.rx := rfl
@[simp] theorem State.takeUp_tx (s : State) : s.takeUp.tx = s.tx := rfl
@[simp] theorem State.takeUp_carry (s : State) : s.takeUp.carry = s.carry := rfl
@[simp] theorem State.takeUp_plan (s : State) : s.takeUp.plan = s.plan := rfl
@[simp] theorem State.takeUp_contexts (s : State) : s.takeUp.contexts = s.contexts := rfl
@[simp] theorem State.takeUp_filters (s : State) : s.takeUp.filters = s.filters := rfl
@[simp] theorem State.takeUp_drop (s : State) : s.takeUp.drop = s.drop := rfl
@[simp] theorem State.takeUp_responder (s : State) : s.takeUp.responder = s.responder := rfl
@[simp] theorem State.takeUp_config (s : State) : s.takeUp.config = s.config := rfl
@[simp] theorem State.takeUp_originator (s : State) : s.takeUp.originator = s.originator := rfl
@[simp] theorem State.takeUp_port (s : State) : s.takeUp.port = s.port := rfl
@[simp] theorem State.takeUp_counters (s : State) : s.takeUp.counters = s.counters := rfl
@[simp] theorem State.takeUp_line (s : State) : s.takeUp.line = s.line := rfl
@[simp] theorem State.takeUp_choice (s : State) : s.takeUp.choice = s.choice := rfl
@[simp] theorem State.takeUp_unknowns (s : State) : s.takeUp.unknowns = s.unknowns := rfl
@[simp] theorem State.takeUp_pending (s : State) : s.takeUp.pending = s.pending := rfl
@[simp] theorem State.takeUp_inRound (s : State) : s.takeUp.inRound = s.inRound := by simp [State.inRound]
@[simp] theorem State.takeUp_isMaster (s : State) : s.takeUp.isMaster = s.isMaster := by simp [State.isMaster]

/-! ### takeLate -/

@[simp] theorem State.takeLate_resetAsserted (s : State) : s.takeLate.resetAsserted = s.resetAsserted := rfl
@[simp] theorem State.takeLate_inPort (s : State) : s.takeLate.inPort = s.inPort := rfl
@[simp] theorem State.takeLate_outPort (s : State) : s.takeLate.outPort = s.outPort := rfl
@[simp] theorem State.takeLate_tracker (s : State) : s.takeLate.tracker = s.tracker := rfl
@[simp] theorem State.takeLate_rx (s : State) : s.takeLate.rx = s.rx := rfl
@[simp] theorem State.takeLate_tx (s : State) : s.takeLate.tx = s.tx := rfl
@[simp] theorem State.takeLate_carry (s : State) : s.takeLate.carry = s.carry := rfl
@[simp] theorem State.takeLate_plan (s : State) : s.takeLate.plan = s.plan := rfl
@[simp] theorem State.takeLate_contexts (s : State) : s.takeLate.contexts = s.contexts := rfl
@[simp] theorem State.takeLate_filters (s : State) : s.takeLate.filters = s.filters := rfl
@[simp] theorem State.takeLate_drop (s : State) : s.takeLate.drop = s.drop := rfl
@[simp] theorem State.takeLate_responder (s : State) : s.takeLate.responder = s.responder := rfl
@[simp] theorem State.takeLate_config (s : State) : s.takeLate.config = s.config := rfl
@[simp] theorem State.takeLate_originator (s : State) : s.takeLate.originator = s.originator := rfl
@[simp] theorem State.takeLate_port (s : State) : s.takeLate.port = s.port := rfl
@[simp] theorem State.takeLate_counters (s : State) : s.takeLate.counters = s.counters := rfl
@[simp] theorem State.takeLate_line (s : State) : s.takeLate.line = s.line := rfl
@[simp] theorem State.takeLate_choice (s : State) : s.takeLate.choice = s.choice := rfl
@[simp] theorem State.takeLate_unknowns (s : State) : s.takeLate.unknowns = s.unknowns := rfl
@[simp] theorem State.takeLate_pending (s : State) : s.takeLate.pending = s.pending := rfl
@[simp] theorem State.takeLate_inRound (s : State) : s.takeLate.inRound = s.inRound := by simp [State.inRound]
@[simp] theorem State.takeLate_isMaster (s : State) : s.takeLate.isMaster = s.isMaster := by simp [State.isMaster]

/-! ### emit -/

@[simp] theorem State.emit_resetAsserted (x : TrunkItem) (s : State) : (s.emit x).resetAsserted = s.resetAsserted := by unfold State.emit; split <;> rfl
@[simp] theorem State.emit_inPort (x : TrunkItem) (s : State) : (s.emit x).inPort = s.inPort := by unfold State.emit; split <;> rfl
@[simp] theorem State.emit_outPort (x : TrunkItem) (s : State) : (s.emit x).outPort = s.outPort := by unfold State.emit; split <;> rfl
@[simp] theorem State.emit_tracker (x : TrunkItem) (s : State) : (s.emit x).tracker = s.tracker := by unfold State.emit; split <;> rfl
@[simp] theorem State.emit_rx (x : TrunkItem) (s : State) : (s.emit x).rx = s.rx := by unfold State.emit; split <;> rfl
@[simp] theorem State.emit_tx (x : TrunkItem) (s : State) : (s.emit x).tx = s.tx := by unfold State.emit; split <;> rfl
@[simp] theorem State.emit_carry (x : TrunkItem) (s : State) : (s.emit x).carry = s.carry := by unfold State.emit; split <;> rfl
@[simp] theorem State.emit_plan (x : TrunkItem) (s : State) : (s.emit x).plan = s.plan := by unfold State.emit; split <;> rfl
@[simp] theorem State.emit_contexts (x : TrunkItem) (s : State) : (s.emit x).contexts = s.contexts := by unfold State.emit; split <;> rfl
@[simp] theorem State.emit_filters (x : TrunkItem) (s : State) : (s.emit x).filters = s.filters := by unfold State.emit; split <;> rfl
@[simp] theorem State.emit_drop (x : TrunkItem) (s : State) : (s.emit x).drop = s.drop := by unfold State.emit; split <;> rfl
@[simp] theorem State.emit_responder (x : TrunkItem) (s : State) : (s.emit x).responder = s.responder := by unfold State.emit; split <;> rfl
@[simp] theorem State.emit_config (x : TrunkItem) (s : State) : (s.emit x).config = s.config := by unfold State.emit; split <;> rfl
@[simp] theorem State.emit_originator (x : TrunkItem) (s : State) : (s.emit x).originator = s.originator := by unfold State.emit; split <;> rfl
@[simp] theorem State.emit_port (x : TrunkItem) (s : State) : (s.emit x).port = s.port := by unfold State.emit; split <;> rfl
@[simp] theorem State.emit_events (x : TrunkItem) (s : State) : (s.emit x).events = s.events := by unfold State.emit; split <;> rfl
@[simp] theorem State.emit_counters (x : TrunkItem) (s : State) : (s.emit x).counters = s.counters := by unfold State.emit; split <;> rfl
@[simp] theorem State.emit_choice (x : TrunkItem) (s : State) : (s.emit x).choice = s.choice := by unfold State.emit; split <;> rfl
@[simp] theorem State.emit_unknowns (x : TrunkItem) (s : State) : (s.emit x).unknowns = s.unknowns := by unfold State.emit; split <;> rfl
@[simp] theorem State.emit_pending (x : TrunkItem) (s : State) : (s.emit x).pending = s.pending := by unfold State.emit; split <;> rfl
@[simp] theorem State.emit_inRound (x : TrunkItem) (s : State) : (s.emit x).inRound = s.inRound := by simp [State.inRound]
@[simp] theorem State.emit_isMaster (x : TrunkItem) (s : State) : (s.emit x).isMaster = s.isMaster := by simp [State.isMaster]

/-! ### mapCtx -/

@[simp] theorem State.mapCtx_resetAsserted (c : Fin 16) (f : Context → Context) (s : State) : (s.mapCtx c f).resetAsserted = s.resetAsserted := rfl
@[simp] theorem State.mapCtx_inPort (c : Fin 16) (f : Context → Context) (s : State) : (s.mapCtx c f).inPort = s.inPort := rfl
@[simp] theorem State.mapCtx_outPort (c : Fin 16) (f : Context → Context) (s : State) : (s.mapCtx c f).outPort = s.outPort := rfl
@[simp] theorem State.mapCtx_tracker (c : Fin 16) (f : Context → Context) (s : State) : (s.mapCtx c f).tracker = s.tracker := rfl
@[simp] theorem State.mapCtx_rx (c : Fin 16) (f : Context → Context) (s : State) : (s.mapCtx c f).rx = s.rx := rfl
@[simp] theorem State.mapCtx_tx (c : Fin 16) (f : Context → Context) (s : State) : (s.mapCtx c f).tx = s.tx := rfl
@[simp] theorem State.mapCtx_carry (c : Fin 16) (f : Context → Context) (s : State) : (s.mapCtx c f).carry = s.carry := rfl
@[simp] theorem State.mapCtx_plan (c : Fin 16) (f : Context → Context) (s : State) : (s.mapCtx c f).plan = s.plan := rfl
@[simp] theorem State.mapCtx_filters (c : Fin 16) (f : Context → Context) (s : State) : (s.mapCtx c f).filters = s.filters := rfl
@[simp] theorem State.mapCtx_drop (c : Fin 16) (f : Context → Context) (s : State) : (s.mapCtx c f).drop = s.drop := rfl
@[simp] theorem State.mapCtx_responder (c : Fin 16) (f : Context → Context) (s : State) : (s.mapCtx c f).responder = s.responder := rfl
@[simp] theorem State.mapCtx_config (c : Fin 16) (f : Context → Context) (s : State) : (s.mapCtx c f).config = s.config := rfl
@[simp] theorem State.mapCtx_originator (c : Fin 16) (f : Context → Context) (s : State) : (s.mapCtx c f).originator = s.originator := rfl
@[simp] theorem State.mapCtx_port (c : Fin 16) (f : Context → Context) (s : State) : (s.mapCtx c f).port = s.port := rfl
@[simp] theorem State.mapCtx_events (c : Fin 16) (f : Context → Context) (s : State) : (s.mapCtx c f).events = s.events := rfl
@[simp] theorem State.mapCtx_counters (c : Fin 16) (f : Context → Context) (s : State) : (s.mapCtx c f).counters = s.counters := rfl
@[simp] theorem State.mapCtx_line (c : Fin 16) (f : Context → Context) (s : State) : (s.mapCtx c f).line = s.line := rfl
@[simp] theorem State.mapCtx_choice (c : Fin 16) (f : Context → Context) (s : State) : (s.mapCtx c f).choice = s.choice := rfl
@[simp] theorem State.mapCtx_unknowns (c : Fin 16) (f : Context → Context) (s : State) : (s.mapCtx c f).unknowns = s.unknowns := rfl
@[simp] theorem State.mapCtx_pending (c : Fin 16) (f : Context → Context) (s : State) : (s.mapCtx c f).pending = s.pending := rfl
@[simp] theorem State.mapCtx_inRound (c : Fin 16) (f : Context → Context) (s : State) : (s.mapCtx c f).inRound = s.inRound := by simp [State.inRound]
@[simp] theorem State.mapCtx_isMaster (c : Fin 16) (f : Context → Context) (s : State) : (s.mapCtx c f).isMaster = s.isMaster := by simp [State.isMaster]

/-! ### complete -/

@[simp] theorem State.complete_resetAsserted (ref : Nat) (st : BitVec 8) (body : List Word) (s : State) : (s.complete ref st body).resetAsserted = s.resetAsserted := rfl
@[simp] theorem State.complete_inPort (ref : Nat) (st : BitVec 8) (body : List Word) (s : State) : (s.complete ref st body).inPort = s.inPort := rfl
@[simp] theorem State.complete_outPort (ref : Nat) (st : BitVec 8) (body : List Word) (s : State) : (s.complete ref st body).outPort = s.outPort := rfl
@[simp] theorem State.complete_tracker (ref : Nat) (st : BitVec 8) (body : List Word) (s : State) : (s.complete ref st body).tracker = s.tracker := rfl
@[simp] theorem State.complete_rx (ref : Nat) (st : BitVec 8) (body : List Word) (s : State) : (s.complete ref st body).rx = s.rx := rfl
@[simp] theorem State.complete_tx (ref : Nat) (st : BitVec 8) (body : List Word) (s : State) : (s.complete ref st body).tx = s.tx := rfl
@[simp] theorem State.complete_carry (ref : Nat) (st : BitVec 8) (body : List Word) (s : State) : (s.complete ref st body).carry = s.carry := rfl
@[simp] theorem State.complete_plan (ref : Nat) (st : BitVec 8) (body : List Word) (s : State) : (s.complete ref st body).plan = s.plan := rfl
@[simp] theorem State.complete_contexts (ref : Nat) (st : BitVec 8) (body : List Word) (s : State) : (s.complete ref st body).contexts = s.contexts := rfl
@[simp] theorem State.complete_filters (ref : Nat) (st : BitVec 8) (body : List Word) (s : State) : (s.complete ref st body).filters = s.filters := rfl
@[simp] theorem State.complete_drop (ref : Nat) (st : BitVec 8) (body : List Word) (s : State) : (s.complete ref st body).drop = s.drop := rfl
@[simp] theorem State.complete_responder (ref : Nat) (st : BitVec 8) (body : List Word) (s : State) : (s.complete ref st body).responder = s.responder := rfl
@[simp] theorem State.complete_config (ref : Nat) (st : BitVec 8) (body : List Word) (s : State) : (s.complete ref st body).config = s.config := rfl
@[simp] theorem State.complete_originator (ref : Nat) (st : BitVec 8) (body : List Word) (s : State) : (s.complete ref st body).originator = s.originator := rfl
@[simp] theorem State.complete_events (ref : Nat) (st : BitVec 8) (body : List Word) (s : State) : (s.complete ref st body).events = s.events := rfl
@[simp] theorem State.complete_counters (ref : Nat) (st : BitVec 8) (body : List Word) (s : State) : (s.complete ref st body).counters = s.counters := rfl
@[simp] theorem State.complete_line (ref : Nat) (st : BitVec 8) (body : List Word) (s : State) : (s.complete ref st body).line = s.line := rfl
@[simp] theorem State.complete_choice (ref : Nat) (st : BitVec 8) (body : List Word) (s : State) : (s.complete ref st body).choice = s.choice := rfl
@[simp] theorem State.complete_unknowns (ref : Nat) (st : BitVec 8) (body : List Word) (s : State) : (s.complete ref st body).unknowns = s.unknowns := rfl
@[simp] theorem State.complete_pending (ref : Nat) (st : BitVec 8) (body : List Word) (s : State) : (s.complete ref st body).pending = s.pending := rfl
@[simp] theorem State.complete_inRound (ref : Nat) (st : BitVec 8) (body : List Word) (s : State) : (s.complete ref st body).inRound = s.inRound := by simp [State.inRound]
@[simp] theorem State.complete_isMaster (ref : Nat) (st : BitVec 8) (body : List Word) (s : State) : (s.complete ref st body).isMaster = s.isMaster := by simp [State.isMaster]

/-! ### giveResult -/

@[simp] theorem State.giveResult_resetAsserted (f : List Half) (st : Status) (s : State) : (s.giveResult f st).resetAsserted = s.resetAsserted := rfl
@[simp] theorem State.giveResult_inPort (f : List Half) (st : Status) (s : State) : (s.giveResult f st).inPort = s.inPort := rfl
@[simp] theorem State.giveResult_outPort (f : List Half) (st : Status) (s : State) : (s.giveResult f st).outPort = s.outPort := rfl
@[simp] theorem State.giveResult_tracker (f : List Half) (st : Status) (s : State) : (s.giveResult f st).tracker = s.tracker := rfl
@[simp] theorem State.giveResult_rx (f : List Half) (st : Status) (s : State) : (s.giveResult f st).rx = s.rx := rfl
@[simp] theorem State.giveResult_tx (f : List Half) (st : Status) (s : State) : (s.giveResult f st).tx = s.tx := rfl
@[simp] theorem State.giveResult_carry (f : List Half) (st : Status) (s : State) : (s.giveResult f st).carry = s.carry := rfl
@[simp] theorem State.giveResult_plan (f : List Half) (st : Status) (s : State) : (s.giveResult f st).plan = s.plan := rfl
@[simp] theorem State.giveResult_contexts (f : List Half) (st : Status) (s : State) : (s.giveResult f st).contexts = s.contexts := rfl
@[simp] theorem State.giveResult_filters (f : List Half) (st : Status) (s : State) : (s.giveResult f st).filters = s.filters := rfl
@[simp] theorem State.giveResult_drop (f : List Half) (st : Status) (s : State) : (s.giveResult f st).drop = s.drop := rfl
@[simp] theorem State.giveResult_responder (f : List Half) (st : Status) (s : State) : (s.giveResult f st).responder = s.responder := rfl
@[simp] theorem State.giveResult_config (f : List Half) (st : Status) (s : State) : (s.giveResult f st).config = s.config := rfl
@[simp] theorem State.giveResult_originator (f : List Half) (st : Status) (s : State) : (s.giveResult f st).originator = s.originator := rfl
@[simp] theorem State.giveResult_events (f : List Half) (st : Status) (s : State) : (s.giveResult f st).events = s.events := rfl
@[simp] theorem State.giveResult_counters (f : List Half) (st : Status) (s : State) : (s.giveResult f st).counters = s.counters := rfl
@[simp] theorem State.giveResult_line (f : List Half) (st : Status) (s : State) : (s.giveResult f st).line = s.line := rfl
@[simp] theorem State.giveResult_choice (f : List Half) (st : Status) (s : State) : (s.giveResult f st).choice = s.choice := rfl
@[simp] theorem State.giveResult_unknowns (f : List Half) (st : Status) (s : State) : (s.giveResult f st).unknowns = s.unknowns := rfl
@[simp] theorem State.giveResult_pending (f : List Half) (st : Status) (s : State) : (s.giveResult f st).pending = s.pending := rfl
@[simp] theorem State.giveResult_inRound (f : List Half) (st : Status) (s : State) : (s.giveResult f st).inRound = s.inRound := by simp [State.inRound]
@[simp] theorem State.giveResult_isMaster (f : List Half) (st : Status) (s : State) : (s.giveResult f st).isMaster = s.isMaster := by simp [State.isMaster]

/-! ### sendRestart -/

@[simp] theorem State.sendRestart_resetAsserted (s : State) : (s.sendRestart).resetAsserted = s.resetAsserted := by simp [State.sendRestart]
@[simp] theorem State.sendRestart_inPort (s : State) : (s.sendRestart).inPort = s.inPort := by simp [State.sendRestart]
@[simp] theorem State.sendRestart_outPort (s : State) : (s.sendRestart).outPort = s.outPort := by simp [State.sendRestart]
@[simp] theorem State.sendRestart_tracker (s : State) : (s.sendRestart).tracker = s.tracker := by simp [State.sendRestart]
@[simp] theorem State.sendRestart_rx (s : State) : (s.sendRestart).rx = s.rx := by simp [State.sendRestart]
@[simp] theorem State.sendRestart_tx (s : State) : (s.sendRestart).tx = s.tx := by simp [State.sendRestart]
@[simp] theorem State.sendRestart_carry (s : State) : (s.sendRestart).carry = s.carry := by simp [State.sendRestart]
@[simp] theorem State.sendRestart_plan (s : State) : (s.sendRestart).plan = s.plan := by simp [State.sendRestart]
@[simp] theorem State.sendRestart_contexts (s : State) : (s.sendRestart).contexts = s.contexts := by simp [State.sendRestart]
@[simp] theorem State.sendRestart_filters (s : State) : (s.sendRestart).filters = s.filters := by simp [State.sendRestart]
@[simp] theorem State.sendRestart_drop (s : State) : (s.sendRestart).drop = s.drop := by simp [State.sendRestart]
@[simp] theorem State.sendRestart_responder (s : State) : (s.sendRestart).responder = s.responder := by simp [State.sendRestart]
@[simp] theorem State.sendRestart_config (s : State) : (s.sendRestart).config = s.config := by simp [State.sendRestart]
@[simp] theorem State.sendRestart_originator (s : State) : (s.sendRestart).originator = s.originator := by simp [State.sendRestart]
@[simp] theorem State.sendRestart_port (s : State) : (s.sendRestart).port = s.port := by simp [State.sendRestart]
@[simp] theorem State.sendRestart_events (s : State) : (s.sendRestart).events = s.events := by simp [State.sendRestart]
@[simp] theorem State.sendRestart_choice (s : State) : (s.sendRestart).choice = s.choice := by simp [State.sendRestart]
@[simp] theorem State.sendRestart_unknowns (s : State) : (s.sendRestart).unknowns = s.unknowns := by simp [State.sendRestart]
@[simp] theorem State.sendRestart_pending (s : State) : (s.sendRestart).pending = s.pending := by simp [State.sendRestart]
@[simp] theorem State.sendRestart_inRound (s : State) : (s.sendRestart).inRound = s.inRound := by simp [State.inRound]
@[simp] theorem State.sendRestart_isMaster (s : State) : (s.sendRestart).isMaster = s.isMaster := by simp [State.isMaster]

/-! ### abandonAll -/

@[simp] theorem State.abandonAll_resetAsserted (s : State) : (s.abandonAll).resetAsserted = s.resetAsserted := rfl
@[simp] theorem State.abandonAll_inPort (s : State) : (s.abandonAll).inPort = s.inPort := rfl
@[simp] theorem State.abandonAll_outPort (s : State) : (s.abandonAll).outPort = s.outPort := rfl
@[simp] theorem State.abandonAll_tracker (s : State) : (s.abandonAll).tracker = s.tracker := rfl
@[simp] theorem State.abandonAll_rx (s : State) : (s.abandonAll).rx = s.rx := rfl
@[simp] theorem State.abandonAll_tx (s : State) : (s.abandonAll).tx = s.tx := rfl
@[simp] theorem State.abandonAll_carry (s : State) : (s.abandonAll).carry = s.carry := rfl
@[simp] theorem State.abandonAll_plan (s : State) : (s.abandonAll).plan = s.plan := rfl
@[simp] theorem State.abandonAll_contexts (s : State) : (s.abandonAll).contexts = s.contexts := rfl
@[simp] theorem State.abandonAll_filters (s : State) : (s.abandonAll).filters = s.filters := rfl
@[simp] theorem State.abandonAll_drop (s : State) : (s.abandonAll).drop = s.drop := rfl
@[simp] theorem State.abandonAll_responder (s : State) : (s.abandonAll).responder = s.responder := rfl
@[simp] theorem State.abandonAll_config (s : State) : (s.abandonAll).config = s.config := rfl
@[simp] theorem State.abandonAll_events (s : State) : (s.abandonAll).events = s.events := rfl
@[simp] theorem State.abandonAll_counters (s : State) : (s.abandonAll).counters = s.counters := rfl
@[simp] theorem State.abandonAll_line (s : State) : (s.abandonAll).line = s.line := rfl
@[simp] theorem State.abandonAll_choice (s : State) : (s.abandonAll).choice = s.choice := rfl
@[simp] theorem State.abandonAll_unknowns (s : State) : (s.abandonAll).unknowns = s.unknowns := rfl
@[simp] theorem State.abandonAll_pending (s : State) : (s.abandonAll).pending = s.pending := rfl
@[simp] theorem State.abandonAll_inRound (s : State) : (s.abandonAll).inRound = s.inRound := by simp [State.inRound]
@[simp] theorem State.abandonAll_isMaster (s : State) : (s.abandonAll).isMaster = s.isMaster := by simp [State.isMaster]

/-! ### fillReply -/

@[simp] theorem State.fillReply_resetAsserted (e : WorkEntry) (st : Status) (body : List Word) (m : Option Release) (s : State) : (s.fillReply e st body m).resetAsserted = s.resetAsserted := by unfold State.fillReply; (repeat split) <;> rfl
@[simp] theorem State.fillReply_inPort (e : WorkEntry) (st : Status) (body : List Word) (m : Option Release) (s : State) : (s.fillReply e st body m).inPort = s.inPort := by unfold State.fillReply; (repeat split) <;> rfl
@[simp] theorem State.fillReply_outPort (e : WorkEntry) (st : Status) (body : List Word) (m : Option Release) (s : State) : (s.fillReply e st body m).outPort = s.outPort := by unfold State.fillReply; (repeat split) <;> rfl
@[simp] theorem State.fillReply_tracker (e : WorkEntry) (st : Status) (body : List Word) (m : Option Release) (s : State) : (s.fillReply e st body m).tracker = s.tracker := by unfold State.fillReply; (repeat split) <;> rfl
@[simp] theorem State.fillReply_rx (e : WorkEntry) (st : Status) (body : List Word) (m : Option Release) (s : State) : (s.fillReply e st body m).rx = s.rx := by unfold State.fillReply; (repeat split) <;> rfl
@[simp] theorem State.fillReply_tx (e : WorkEntry) (st : Status) (body : List Word) (m : Option Release) (s : State) : (s.fillReply e st body m).tx = s.tx := by unfold State.fillReply; (repeat split) <;> rfl
@[simp] theorem State.fillReply_carry (e : WorkEntry) (st : Status) (body : List Word) (m : Option Release) (s : State) : (s.fillReply e st body m).carry = s.carry := by unfold State.fillReply; (repeat split) <;> rfl
@[simp] theorem State.fillReply_plan (e : WorkEntry) (st : Status) (body : List Word) (m : Option Release) (s : State) : (s.fillReply e st body m).plan = s.plan := by unfold State.fillReply; (repeat split) <;> rfl
@[simp] theorem State.fillReply_contexts (e : WorkEntry) (st : Status) (body : List Word) (m : Option Release) (s : State) : (s.fillReply e st body m).contexts = s.contexts := by unfold State.fillReply; (repeat split) <;> rfl
@[simp] theorem State.fillReply_filters (e : WorkEntry) (st : Status) (body : List Word) (m : Option Release) (s : State) : (s.fillReply e st body m).filters = s.filters := by unfold State.fillReply; (repeat split) <;> rfl
@[simp] theorem State.fillReply_drop (e : WorkEntry) (st : Status) (body : List Word) (m : Option Release) (s : State) : (s.fillReply e st body m).drop = s.drop := by unfold State.fillReply; (repeat split) <;> rfl
@[simp] theorem State.fillReply_config (e : WorkEntry) (st : Status) (body : List Word) (m : Option Release) (s : State) : (s.fillReply e st body m).config = s.config := by unfold State.fillReply; (repeat split) <;> rfl
@[simp] theorem State.fillReply_originator (e : WorkEntry) (st : Status) (body : List Word) (m : Option Release) (s : State) : (s.fillReply e st body m).originator = s.originator := by unfold State.fillReply; (repeat split) <;> rfl
@[simp] theorem State.fillReply_events (e : WorkEntry) (st : Status) (body : List Word) (m : Option Release) (s : State) : (s.fillReply e st body m).events = s.events := by unfold State.fillReply; (repeat split) <;> rfl
@[simp] theorem State.fillReply_counters (e : WorkEntry) (st : Status) (body : List Word) (m : Option Release) (s : State) : (s.fillReply e st body m).counters = s.counters := by unfold State.fillReply; (repeat split) <;> rfl
@[simp] theorem State.fillReply_line (e : WorkEntry) (st : Status) (body : List Word) (m : Option Release) (s : State) : (s.fillReply e st body m).line = s.line := by unfold State.fillReply; (repeat split) <;> rfl
@[simp] theorem State.fillReply_choice (e : WorkEntry) (st : Status) (body : List Word) (m : Option Release) (s : State) : (s.fillReply e st body m).choice = s.choice := by unfold State.fillReply; (repeat split) <;> rfl
@[simp] theorem State.fillReply_unknowns (e : WorkEntry) (st : Status) (body : List Word) (m : Option Release) (s : State) : (s.fillReply e st body m).unknowns = s.unknowns := by unfold State.fillReply; (repeat split) <;> rfl
@[simp] theorem State.fillReply_pending (e : WorkEntry) (st : Status) (body : List Word) (m : Option Release) (s : State) : (s.fillReply e st body m).pending = s.pending := by unfold State.fillReply; (repeat split) <;> rfl
@[simp] theorem State.fillReply_inRound (e : WorkEntry) (st : Status) (body : List Word) (m : Option Release) (s : State) : (s.fillReply e st body m).inRound = s.inRound := by simp [State.inRound]
@[simp] theorem State.fillReply_isMaster (e : WorkEntry) (st : Status) (body : List Word) (m : Option Release) (s : State) : (s.fillReply e st body m).isMaster = s.isMaster := by simp [State.isMaster]

/-! ### recordFailure -/

@[simp] theorem State.recordFailure_resetAsserted (e : WorkEntry) (i : Nat) (st : Status) (s : State) : (s.recordFailure e i st).resetAsserted = s.resetAsserted := rfl
@[simp] theorem State.recordFailure_inPort (e : WorkEntry) (i : Nat) (st : Status) (s : State) : (s.recordFailure e i st).inPort = s.inPort := rfl
@[simp] theorem State.recordFailure_outPort (e : WorkEntry) (i : Nat) (st : Status) (s : State) : (s.recordFailure e i st).outPort = s.outPort := rfl
@[simp] theorem State.recordFailure_tracker (e : WorkEntry) (i : Nat) (st : Status) (s : State) : (s.recordFailure e i st).tracker = s.tracker := rfl
@[simp] theorem State.recordFailure_rx (e : WorkEntry) (i : Nat) (st : Status) (s : State) : (s.recordFailure e i st).rx = s.rx := rfl
@[simp] theorem State.recordFailure_tx (e : WorkEntry) (i : Nat) (st : Status) (s : State) : (s.recordFailure e i st).tx = s.tx := rfl
@[simp] theorem State.recordFailure_carry (e : WorkEntry) (i : Nat) (st : Status) (s : State) : (s.recordFailure e i st).carry = s.carry := rfl
@[simp] theorem State.recordFailure_plan (e : WorkEntry) (i : Nat) (st : Status) (s : State) : (s.recordFailure e i st).plan = s.plan := rfl
@[simp] theorem State.recordFailure_contexts (e : WorkEntry) (i : Nat) (st : Status) (s : State) : (s.recordFailure e i st).contexts = s.contexts := rfl
@[simp] theorem State.recordFailure_filters (e : WorkEntry) (i : Nat) (st : Status) (s : State) : (s.recordFailure e i st).filters = s.filters := rfl
@[simp] theorem State.recordFailure_drop (e : WorkEntry) (i : Nat) (st : Status) (s : State) : (s.recordFailure e i st).drop = s.drop := rfl
@[simp] theorem State.recordFailure_config (e : WorkEntry) (i : Nat) (st : Status) (s : State) : (s.recordFailure e i st).config = s.config := rfl
@[simp] theorem State.recordFailure_originator (e : WorkEntry) (i : Nat) (st : Status) (s : State) : (s.recordFailure e i st).originator = s.originator := rfl
@[simp] theorem State.recordFailure_port (e : WorkEntry) (i : Nat) (st : Status) (s : State) : (s.recordFailure e i st).port = s.port := rfl
@[simp] theorem State.recordFailure_counters (e : WorkEntry) (i : Nat) (st : Status) (s : State) : (s.recordFailure e i st).counters = s.counters := rfl
@[simp] theorem State.recordFailure_line (e : WorkEntry) (i : Nat) (st : Status) (s : State) : (s.recordFailure e i st).line = s.line := rfl
@[simp] theorem State.recordFailure_choice (e : WorkEntry) (i : Nat) (st : Status) (s : State) : (s.recordFailure e i st).choice = s.choice := rfl
@[simp] theorem State.recordFailure_unknowns (e : WorkEntry) (i : Nat) (st : Status) (s : State) : (s.recordFailure e i st).unknowns = s.unknowns := rfl
@[simp] theorem State.recordFailure_pending (e : WorkEntry) (i : Nat) (st : Status) (s : State) : (s.recordFailure e i st).pending = s.pending := rfl
@[simp] theorem State.recordFailure_inRound (e : WorkEntry) (i : Nat) (st : Status) (s : State) : (s.recordFailure e i st).inRound = s.inRound := by simp [State.inRound]
@[simp] theorem State.recordFailure_isMaster (e : WorkEntry) (i : Nat) (st : Status) (s : State) : (s.recordFailure e i st).isMaster = s.isMaster := by simp [State.isMaster]

/-! ### enqueue -/

@[simp] theorem State.enqueue_resetAsserted (e : WorkEntry) (s : State) : (s.enqueue e).resetAsserted = s.resetAsserted := rfl
@[simp] theorem State.enqueue_inPort (e : WorkEntry) (s : State) : (s.enqueue e).inPort = s.inPort := rfl
@[simp] theorem State.enqueue_outPort (e : WorkEntry) (s : State) : (s.enqueue e).outPort = s.outPort := rfl
@[simp] theorem State.enqueue_tracker (e : WorkEntry) (s : State) : (s.enqueue e).tracker = s.tracker := rfl
@[simp] theorem State.enqueue_rx (e : WorkEntry) (s : State) : (s.enqueue e).rx = s.rx := rfl
@[simp] theorem State.enqueue_tx (e : WorkEntry) (s : State) : (s.enqueue e).tx = s.tx := rfl
@[simp] theorem State.enqueue_carry (e : WorkEntry) (s : State) : (s.enqueue e).carry = s.carry := rfl
@[simp] theorem State.enqueue_plan (e : WorkEntry) (s : State) : (s.enqueue e).plan = s.plan := rfl
@[simp] theorem State.enqueue_contexts (e : WorkEntry) (s : State) : (s.enqueue e).contexts = s.contexts := rfl
@[simp] theorem State.enqueue_filters (e : WorkEntry) (s : State) : (s.enqueue e).filters = s.filters := rfl
@[simp] theorem State.enqueue_drop (e : WorkEntry) (s : State) : (s.enqueue e).drop = s.drop := rfl
@[simp] theorem State.enqueue_config (e : WorkEntry) (s : State) : (s.enqueue e).config = s.config := rfl
@[simp] theorem State.enqueue_originator (e : WorkEntry) (s : State) : (s.enqueue e).originator = s.originator := rfl
@[simp] theorem State.enqueue_port (e : WorkEntry) (s : State) : (s.enqueue e).port = s.port := rfl
@[simp] theorem State.enqueue_events (e : WorkEntry) (s : State) : (s.enqueue e).events = s.events := rfl
@[simp] theorem State.enqueue_counters (e : WorkEntry) (s : State) : (s.enqueue e).counters = s.counters := rfl
@[simp] theorem State.enqueue_line (e : WorkEntry) (s : State) : (s.enqueue e).line = s.line := rfl
@[simp] theorem State.enqueue_choice (e : WorkEntry) (s : State) : (s.enqueue e).choice = s.choice := rfl
@[simp] theorem State.enqueue_unknowns (e : WorkEntry) (s : State) : (s.enqueue e).unknowns = s.unknowns := rfl
@[simp] theorem State.enqueue_pending (e : WorkEntry) (s : State) : (s.enqueue e).pending = s.pending := rfl
@[simp] theorem State.enqueue_inRound (e : WorkEntry) (s : State) : (s.enqueue e).inRound = s.inRound := by simp [State.inRound]
@[simp] theorem State.enqueue_isMaster (e : WorkEntry) (s : State) : (s.enqueue e).isMaster = s.isMaster := by simp [State.isMaster]

/-! ### completeEntry -/

@[simp] theorem State.completeEntry_resetAsserted (e : OrigEntry) (st : BitVec 8) (body : List Word) (s : State) : (s.completeEntry e st body).resetAsserted = s.resetAsserted := rfl
@[simp] theorem State.completeEntry_inPort (e : OrigEntry) (st : BitVec 8) (body : List Word) (s : State) : (s.completeEntry e st body).inPort = s.inPort := rfl
@[simp] theorem State.completeEntry_outPort (e : OrigEntry) (st : BitVec 8) (body : List Word) (s : State) : (s.completeEntry e st body).outPort = s.outPort := rfl
@[simp] theorem State.completeEntry_tracker (e : OrigEntry) (st : BitVec 8) (body : List Word) (s : State) : (s.completeEntry e st body).tracker = s.tracker := rfl
@[simp] theorem State.completeEntry_rx (e : OrigEntry) (st : BitVec 8) (body : List Word) (s : State) : (s.completeEntry e st body).rx = s.rx := rfl
@[simp] theorem State.completeEntry_tx (e : OrigEntry) (st : BitVec 8) (body : List Word) (s : State) : (s.completeEntry e st body).tx = s.tx := rfl
@[simp] theorem State.completeEntry_carry (e : OrigEntry) (st : BitVec 8) (body : List Word) (s : State) : (s.completeEntry e st body).carry = s.carry := rfl
@[simp] theorem State.completeEntry_plan (e : OrigEntry) (st : BitVec 8) (body : List Word) (s : State) : (s.completeEntry e st body).plan = s.plan := rfl
@[simp] theorem State.completeEntry_contexts (e : OrigEntry) (st : BitVec 8) (body : List Word) (s : State) : (s.completeEntry e st body).contexts = s.contexts := rfl
@[simp] theorem State.completeEntry_filters (e : OrigEntry) (st : BitVec 8) (body : List Word) (s : State) : (s.completeEntry e st body).filters = s.filters := rfl
@[simp] theorem State.completeEntry_drop (e : OrigEntry) (st : BitVec 8) (body : List Word) (s : State) : (s.completeEntry e st body).drop = s.drop := rfl
@[simp] theorem State.completeEntry_responder (e : OrigEntry) (st : BitVec 8) (body : List Word) (s : State) : (s.completeEntry e st body).responder = s.responder := rfl
@[simp] theorem State.completeEntry_config (e : OrigEntry) (st : BitVec 8) (body : List Word) (s : State) : (s.completeEntry e st body).config = s.config := rfl
@[simp] theorem State.completeEntry_events (e : OrigEntry) (st : BitVec 8) (body : List Word) (s : State) : (s.completeEntry e st body).events = s.events := rfl
@[simp] theorem State.completeEntry_counters (e : OrigEntry) (st : BitVec 8) (body : List Word) (s : State) : (s.completeEntry e st body).counters = s.counters := rfl
@[simp] theorem State.completeEntry_line (e : OrigEntry) (st : BitVec 8) (body : List Word) (s : State) : (s.completeEntry e st body).line = s.line := rfl
@[simp] theorem State.completeEntry_choice (e : OrigEntry) (st : BitVec 8) (body : List Word) (s : State) : (s.completeEntry e st body).choice = s.choice := rfl
@[simp] theorem State.completeEntry_unknowns (e : OrigEntry) (st : BitVec 8) (body : List Word) (s : State) : (s.completeEntry e st body).unknowns = s.unknowns := rfl
@[simp] theorem State.completeEntry_pending (e : OrigEntry) (st : BitVec 8) (body : List Word) (s : State) : (s.completeEntry e st body).pending = s.pending := rfl
@[simp] theorem State.completeEntry_inRound (e : OrigEntry) (st : BitVec 8) (body : List Word) (s : State) : (s.completeEntry e st body).inRound = s.inRound := by simp [State.inRound]
@[simp] theorem State.completeEntry_isMaster (e : OrigEntry) (st : BitVec 8) (body : List Word) (s : State) : (s.completeEntry e st body).isMaster = s.isMaster := by simp [State.isMaster]

/-! ### sendMessage -/

@[simp] theorem State.sendMessage_resetAsserted (m : RxMessage) (s : State) : (s.sendMessage m).resetAsserted = s.resetAsserted := by simp [State.sendMessage]
@[simp] theorem State.sendMessage_inPort (m : RxMessage) (s : State) : (s.sendMessage m).inPort = s.inPort := by simp [State.sendMessage]
@[simp] theorem State.sendMessage_outPort (m : RxMessage) (s : State) : (s.sendMessage m).outPort = s.outPort := by simp [State.sendMessage]
@[simp] theorem State.sendMessage_tracker (m : RxMessage) (s : State) : (s.sendMessage m).tracker = s.tracker := by simp [State.sendMessage]
@[simp] theorem State.sendMessage_rx (m : RxMessage) (s : State) : (s.sendMessage m).rx = s.rx := by simp [State.sendMessage]
@[simp] theorem State.sendMessage_carry (m : RxMessage) (s : State) : (s.sendMessage m).carry = s.carry := by simp [State.sendMessage]
@[simp] theorem State.sendMessage_plan (m : RxMessage) (s : State) : (s.sendMessage m).plan = s.plan := by simp [State.sendMessage]
@[simp] theorem State.sendMessage_contexts (m : RxMessage) (s : State) : (s.sendMessage m).contexts = s.contexts := by simp [State.sendMessage]
@[simp] theorem State.sendMessage_filters (m : RxMessage) (s : State) : (s.sendMessage m).filters = s.filters := by simp [State.sendMessage]
@[simp] theorem State.sendMessage_drop (m : RxMessage) (s : State) : (s.sendMessage m).drop = s.drop := by simp [State.sendMessage]
@[simp] theorem State.sendMessage_responder (m : RxMessage) (s : State) : (s.sendMessage m).responder = s.responder := by simp [State.sendMessage]
@[simp] theorem State.sendMessage_config (m : RxMessage) (s : State) : (s.sendMessage m).config = s.config := by simp [State.sendMessage]
@[simp] theorem State.sendMessage_originator (m : RxMessage) (s : State) : (s.sendMessage m).originator = s.originator := by simp [State.sendMessage]
@[simp] theorem State.sendMessage_port (m : RxMessage) (s : State) : (s.sendMessage m).port = s.port := by simp [State.sendMessage]
@[simp] theorem State.sendMessage_events (m : RxMessage) (s : State) : (s.sendMessage m).events = s.events := by simp [State.sendMessage]
@[simp] theorem State.sendMessage_counters (m : RxMessage) (s : State) : (s.sendMessage m).counters = s.counters := by simp [State.sendMessage]
@[simp] theorem State.sendMessage_choice (m : RxMessage) (s : State) : (s.sendMessage m).choice = s.choice := by simp [State.sendMessage]
@[simp] theorem State.sendMessage_unknowns (m : RxMessage) (s : State) : (s.sendMessage m).unknowns = s.unknowns := by simp [State.sendMessage]
@[simp] theorem State.sendMessage_pending (m : RxMessage) (s : State) : (s.sendMessage m).pending = s.pending := by simp [State.sendMessage]
@[simp] theorem State.sendMessage_inRound (m : RxMessage) (s : State) : (s.sendMessage m).inRound = s.inRound := by simp [State.inRound]
@[simp] theorem State.sendMessage_isMaster (m : RxMessage) (s : State) : (s.sendMessage m).isMaster = s.isMaster := by simp [State.isMaster]

/-! ### offer -/

@[simp] theorem State.offer_resetAsserted (i : Fin 16) (a : Assembly) (s : State) : (s.offer i a).resetAsserted = s.resetAsserted := by simp only [State.offer]; split <;> [split <;> rfl; rfl]
@[simp] theorem State.offer_inPort (i : Fin 16) (a : Assembly) (s : State) : (s.offer i a).inPort = s.inPort := by simp only [State.offer]; split <;> [split <;> rfl; rfl]
@[simp] theorem State.offer_outPort (i : Fin 16) (a : Assembly) (s : State) : (s.offer i a).outPort = s.outPort := by simp only [State.offer]; split <;> [split <;> rfl; rfl]
@[simp] theorem State.offer_tracker (i : Fin 16) (a : Assembly) (s : State) : (s.offer i a).tracker = s.tracker := by simp only [State.offer]; split <;> [split <;> rfl; rfl]
@[simp] theorem State.offer_rx (i : Fin 16) (a : Assembly) (s : State) : (s.offer i a).rx = s.rx := by simp only [State.offer]; split <;> [split <;> rfl; rfl]
@[simp] theorem State.offer_tx (i : Fin 16) (a : Assembly) (s : State) : (s.offer i a).tx = s.tx := by simp only [State.offer]; split <;> [split <;> rfl; rfl]
@[simp] theorem State.offer_carry (i : Fin 16) (a : Assembly) (s : State) : (s.offer i a).carry = s.carry := by simp only [State.offer]; split <;> [split <;> rfl; rfl]
@[simp] theorem State.offer_plan (i : Fin 16) (a : Assembly) (s : State) : (s.offer i a).plan = s.plan := by simp only [State.offer]; split <;> [split <;> rfl; rfl]
@[simp] theorem State.offer_filters (i : Fin 16) (a : Assembly) (s : State) : (s.offer i a).filters = s.filters := by simp only [State.offer]; split <;> [split <;> rfl; rfl]
@[simp] theorem State.offer_responder (i : Fin 16) (a : Assembly) (s : State) : (s.offer i a).responder = s.responder := by simp only [State.offer]; split <;> [split <;> rfl; rfl]
@[simp] theorem State.offer_config (i : Fin 16) (a : Assembly) (s : State) : (s.offer i a).config = s.config := by simp only [State.offer]; split <;> [split <;> rfl; rfl]
@[simp] theorem State.offer_originator (i : Fin 16) (a : Assembly) (s : State) : (s.offer i a).originator = s.originator := by simp only [State.offer]; split <;> [split <;> rfl; rfl]
@[simp] theorem State.offer_port (i : Fin 16) (a : Assembly) (s : State) : (s.offer i a).port = s.port := by simp only [State.offer]; split <;> [split <;> rfl; rfl]
@[simp] theorem State.offer_counters (i : Fin 16) (a : Assembly) (s : State) : (s.offer i a).counters = s.counters := by simp only [State.offer]; split <;> [split <;> rfl; rfl]
@[simp] theorem State.offer_line (i : Fin 16) (a : Assembly) (s : State) : (s.offer i a).line = s.line := by simp only [State.offer]; split <;> [split <;> rfl; rfl]
@[simp] theorem State.offer_choice (i : Fin 16) (a : Assembly) (s : State) : (s.offer i a).choice = s.choice := by simp only [State.offer]; split <;> [split <;> rfl; rfl]
@[simp] theorem State.offer_unknowns (i : Fin 16) (a : Assembly) (s : State) : (s.offer i a).unknowns = s.unknowns := by simp only [State.offer]; split <;> [split <;> rfl; rfl]
@[simp] theorem State.offer_pending (i : Fin 16) (a : Assembly) (s : State) : (s.offer i a).pending = s.pending := by simp only [State.offer]; split <;> [split <;> rfl; rfl]
@[simp] theorem State.offer_inRound (i : Fin 16) (a : Assembly) (s : State) : (s.offer i a).inRound = s.inRound := by simp [State.inRound]
@[simp] theorem State.offer_isMaster (i : Fin 16) (a : Assembly) (s : State) : (s.offer i a).isMaster = s.isMaster := by simp [State.isMaster]

/-! ### beginAttempt -/

@[simp] theorem State.beginAttempt_resetAsserted (s : State) : (s.beginAttempt).resetAsserted = s.resetAsserted := by unfold State.beginAttempt; (repeat split) <;> simp
@[simp] theorem State.beginAttempt_inPort (s : State) : (s.beginAttempt).inPort = s.inPort := by unfold State.beginAttempt; (repeat split) <;> simp
@[simp] theorem State.beginAttempt_outPort (s : State) : (s.beginAttempt).outPort = s.outPort := by unfold State.beginAttempt; (repeat split) <;> simp
@[simp] theorem State.beginAttempt_rx (s : State) : (s.beginAttempt).rx = s.rx := by unfold State.beginAttempt; (repeat split) <;> simp
@[simp] theorem State.beginAttempt_tx (s : State) : (s.beginAttempt).tx = s.tx := by unfold State.beginAttempt; (repeat split) <;> simp
@[simp] theorem State.beginAttempt_carry (s : State) : (s.beginAttempt).carry = s.carry := by unfold State.beginAttempt; (repeat split) <;> simp
@[simp] theorem State.beginAttempt_plan (s : State) : (s.beginAttempt).plan = s.plan := by unfold State.beginAttempt; (repeat split) <;> simp
@[simp] theorem State.beginAttempt_contexts (s : State) : (s.beginAttempt).contexts = s.contexts := by unfold State.beginAttempt; (repeat split) <;> simp
@[simp] theorem State.beginAttempt_filters (s : State) : (s.beginAttempt).filters = s.filters := by unfold State.beginAttempt; (repeat split) <;> simp
@[simp] theorem State.beginAttempt_drop (s : State) : (s.beginAttempt).drop = s.drop := by unfold State.beginAttempt; (repeat split) <;> simp
@[simp] theorem State.beginAttempt_responder (s : State) : (s.beginAttempt).responder = s.responder := by unfold State.beginAttempt; (repeat split) <;> simp
@[simp] theorem State.beginAttempt_config (s : State) : (s.beginAttempt).config = s.config := by unfold State.beginAttempt; (repeat split) <;> simp
@[simp] theorem State.beginAttempt_originator (s : State) : (s.beginAttempt).originator = s.originator := by unfold State.beginAttempt; (repeat split) <;> simp
@[simp] theorem State.beginAttempt_port (s : State) : (s.beginAttempt).port = s.port := by unfold State.beginAttempt; (repeat split) <;> simp
@[simp] theorem State.beginAttempt_events (s : State) : (s.beginAttempt).events = s.events := by unfold State.beginAttempt; (repeat split) <;> simp
@[simp] theorem State.beginAttempt_counters (s : State) : (s.beginAttempt).counters = s.counters := by unfold State.beginAttempt; (repeat split) <;> simp
@[simp] theorem State.beginAttempt_choice (s : State) : (s.beginAttempt).choice = s.choice := by unfold State.beginAttempt; (repeat split) <;> simp
@[simp] theorem State.beginAttempt_unknowns (s : State) : (s.beginAttempt).unknowns = s.unknowns := by unfold State.beginAttempt; (repeat split) <;> simp
@[simp] theorem State.beginAttempt_pending (s : State) : (s.beginAttempt).pending = s.pending := by unfold State.beginAttempt; (repeat split) <;> simp

/-! ### handRestart -/

@[simp] theorem State.handRestart_resetAsserted (s : State) : (s.handRestart).resetAsserted = s.resetAsserted := rfl
@[simp] theorem State.handRestart_inPort (s : State) : (s.handRestart).inPort = s.inPort := rfl
@[simp] theorem State.handRestart_outPort (s : State) : (s.handRestart).outPort = s.outPort := rfl
@[simp] theorem State.handRestart_tracker (s : State) : (s.handRestart).tracker = s.tracker := rfl
@[simp] theorem State.handRestart_filters (s : State) : (s.handRestart).filters = s.filters := rfl
@[simp] theorem State.handRestart_drop (s : State) : (s.handRestart).drop = s.drop := rfl
@[simp] theorem State.handRestart_config (s : State) : (s.handRestart).config = s.config := rfl
@[simp] theorem State.handRestart_events (s : State) : (s.handRestart).events = s.events := rfl
@[simp] theorem State.handRestart_counters (s : State) : (s.handRestart).counters = s.counters := rfl
@[simp] theorem State.handRestart_line (s : State) : (s.handRestart).line = s.line := rfl
@[simp] theorem State.handRestart_choice (s : State) : (s.handRestart).choice = s.choice := rfl
@[simp] theorem State.handRestart_unknowns (s : State) : (s.handRestart).unknowns = s.unknowns := rfl
@[simp] theorem State.handRestart_pending (s : State) : (s.handRestart).pending = s.pending := rfl
@[simp] theorem State.handRestart_inRound (s : State) : (s.handRestart).inRound = s.inRound := by simp [State.inRound]
@[simp] theorem State.handRestart_isMaster (s : State) : (s.handRestart).isMaster = s.isMaster := by simp [State.isMaster]

/-! ### framingFault -/

@[simp] theorem State.framingFault_resetAsserted (s : State) : (s.framingFault).resetAsserted = s.resetAsserted := rfl
@[simp] theorem State.framingFault_inPort (s : State) : (s.framingFault).inPort = s.inPort := rfl
@[simp] theorem State.framingFault_outPort (s : State) : (s.framingFault).outPort = s.outPort := rfl
@[simp] theorem State.framingFault_tracker (s : State) : (s.framingFault).tracker = s.tracker := rfl
@[simp] theorem State.framingFault_rx (s : State) : (s.framingFault).rx = s.rx := rfl
@[simp] theorem State.framingFault_tx (s : State) : (s.framingFault).tx = s.tx := rfl
@[simp] theorem State.framingFault_carry (s : State) : (s.framingFault).carry = s.carry := rfl
@[simp] theorem State.framingFault_plan (s : State) : (s.framingFault).plan = s.plan := rfl
@[simp] theorem State.framingFault_contexts (s : State) : (s.framingFault).contexts = s.contexts := rfl
@[simp] theorem State.framingFault_filters (s : State) : (s.framingFault).filters = s.filters := rfl
@[simp] theorem State.framingFault_drop (s : State) : (s.framingFault).drop = s.drop := rfl
@[simp] theorem State.framingFault_responder (s : State) : (s.framingFault).responder = s.responder := rfl
@[simp] theorem State.framingFault_config (s : State) : (s.framingFault).config = s.config := rfl
@[simp] theorem State.framingFault_originator (s : State) : (s.framingFault).originator = s.originator := rfl
@[simp] theorem State.framingFault_port (s : State) : (s.framingFault).port = s.port := rfl
@[simp] theorem State.framingFault_events (s : State) : (s.framingFault).events = s.events := rfl
@[simp] theorem State.framingFault_line (s : State) : (s.framingFault).line = s.line := rfl
@[simp] theorem State.framingFault_choice (s : State) : (s.framingFault).choice = s.choice := rfl
@[simp] theorem State.framingFault_unknowns (s : State) : (s.framingFault).unknowns = s.unknowns := rfl
@[simp] theorem State.framingFault_pending (s : State) : (s.framingFault).pending = s.pending := rfl
@[simp] theorem State.framingFault_inRound (s : State) : (s.framingFault).inRound = s.inRound := by simp [State.inRound]
@[simp] theorem State.framingFault_isMaster (s : State) : (s.framingFault).isMaster = s.isMaster := by simp [State.isMaster]

/-! ### endRun -/

@[simp] theorem State.endRun_resetAsserted (s : State) : (s.endRun).resetAsserted = s.resetAsserted := rfl
@[simp] theorem State.endRun_inPort (s : State) : (s.endRun).inPort = s.inPort := rfl
@[simp] theorem State.endRun_outPort (s : State) : (s.endRun).outPort = s.outPort := rfl
@[simp] theorem State.endRun_tracker (s : State) : (s.endRun).tracker = s.tracker := rfl
@[simp] theorem State.endRun_tx (s : State) : (s.endRun).tx = s.tx := rfl
@[simp] theorem State.endRun_carry (s : State) : (s.endRun).carry = s.carry := rfl
@[simp] theorem State.endRun_plan (s : State) : (s.endRun).plan = s.plan := rfl
@[simp] theorem State.endRun_contexts (s : State) : (s.endRun).contexts = s.contexts := rfl
@[simp] theorem State.endRun_filters (s : State) : (s.endRun).filters = s.filters := rfl
@[simp] theorem State.endRun_drop (s : State) : (s.endRun).drop = s.drop := rfl
@[simp] theorem State.endRun_responder (s : State) : (s.endRun).responder = s.responder := rfl
@[simp] theorem State.endRun_config (s : State) : (s.endRun).config = s.config := rfl
@[simp] theorem State.endRun_originator (s : State) : (s.endRun).originator = s.originator := rfl
@[simp] theorem State.endRun_port (s : State) : (s.endRun).port = s.port := rfl
@[simp] theorem State.endRun_events (s : State) : (s.endRun).events = s.events := rfl
@[simp] theorem State.endRun_counters (s : State) : (s.endRun).counters = s.counters := rfl
@[simp] theorem State.endRun_line (s : State) : (s.endRun).line = s.line := rfl
@[simp] theorem State.endRun_choice (s : State) : (s.endRun).choice = s.choice := rfl
@[simp] theorem State.endRun_unknowns (s : State) : (s.endRun).unknowns = s.unknowns := rfl
@[simp] theorem State.endRun_pending (s : State) : (s.endRun).pending = s.pending := rfl
@[simp] theorem State.endRun_inRound (s : State) : (s.endRun).inRound = s.inRound := by simp [State.inRound]
@[simp] theorem State.endRun_isMaster (s : State) : (s.endRun).isMaster = s.isMaster := by simp [State.isMaster]

/-! ### reminderEnds -/

@[simp] theorem State.reminderEnds_resetAsserted (s : State) : (s.reminderEnds).resetAsserted = s.resetAsserted := by unfold State.reminderEnds; split <;> rfl
@[simp] theorem State.reminderEnds_inPort (s : State) : (s.reminderEnds).inPort = s.inPort := by unfold State.reminderEnds; split <;> rfl
@[simp] theorem State.reminderEnds_outPort (s : State) : (s.reminderEnds).outPort = s.outPort := by unfold State.reminderEnds; split <;> rfl
@[simp] theorem State.reminderEnds_tracker (s : State) : (s.reminderEnds).tracker = s.tracker := by unfold State.reminderEnds; split <;> rfl
@[simp] theorem State.reminderEnds_rx (s : State) : (s.reminderEnds).rx = s.rx := by unfold State.reminderEnds; split <;> rfl
@[simp] theorem State.reminderEnds_tx (s : State) : (s.reminderEnds).tx = s.tx := by unfold State.reminderEnds; split <;> rfl
@[simp] theorem State.reminderEnds_carry (s : State) : (s.reminderEnds).carry = s.carry := by unfold State.reminderEnds; split <;> rfl
@[simp] theorem State.reminderEnds_plan (s : State) : (s.reminderEnds).plan = s.plan := by unfold State.reminderEnds; split <;> rfl
@[simp] theorem State.reminderEnds_contexts (s : State) : (s.reminderEnds).contexts = s.contexts := by unfold State.reminderEnds; split <;> rfl
@[simp] theorem State.reminderEnds_filters (s : State) : (s.reminderEnds).filters = s.filters := by unfold State.reminderEnds; split <;> rfl
@[simp] theorem State.reminderEnds_drop (s : State) : (s.reminderEnds).drop = s.drop := by unfold State.reminderEnds; split <;> rfl
@[simp] theorem State.reminderEnds_responder (s : State) : (s.reminderEnds).responder = s.responder := by unfold State.reminderEnds; split <;> rfl
@[simp] theorem State.reminderEnds_config (s : State) : (s.reminderEnds).config = s.config := by unfold State.reminderEnds; split <;> rfl
@[simp] theorem State.reminderEnds_originator (s : State) : (s.reminderEnds).originator = s.originator := by unfold State.reminderEnds; split <;> rfl
@[simp] theorem State.reminderEnds_port (s : State) : (s.reminderEnds).port = s.port := by unfold State.reminderEnds; split <;> rfl
@[simp] theorem State.reminderEnds_counters (s : State) : (s.reminderEnds).counters = s.counters := by unfold State.reminderEnds; split <;> rfl
@[simp] theorem State.reminderEnds_line (s : State) : (s.reminderEnds).line = s.line := by unfold State.reminderEnds; split <;> rfl
@[simp] theorem State.reminderEnds_choice (s : State) : (s.reminderEnds).choice = s.choice := by unfold State.reminderEnds; split <;> rfl
@[simp] theorem State.reminderEnds_unknowns (s : State) : (s.reminderEnds).unknowns = s.unknowns := by unfold State.reminderEnds; split <;> rfl
@[simp] theorem State.reminderEnds_pending (s : State) : (s.reminderEnds).pending = s.pending := by unfold State.reminderEnds; split <;> rfl
@[simp] theorem State.reminderEnds_inRound (s : State) : (s.reminderEnds).inRound = s.inRound := by simp [State.inRound]
@[simp] theorem State.reminderEnds_isMaster (s : State) : (s.reminderEnds).isMaster = s.isMaster := by simp [State.isMaster]

/-! ### takeLeaves -/

@[simp] theorem State.takeLeaves_resetAsserted (k : TakeKind) (s : State) : (s.takeLeaves k).resetAsserted = s.resetAsserted := by cases k <;> rfl
@[simp] theorem State.takeLeaves_inPort (k : TakeKind) (s : State) : (s.takeLeaves k).inPort = s.inPort := by cases k <;> rfl
@[simp] theorem State.takeLeaves_outPort (k : TakeKind) (s : State) : (s.takeLeaves k).outPort = s.outPort := by cases k <;> rfl
@[simp] theorem State.takeLeaves_tracker (k : TakeKind) (s : State) : (s.takeLeaves k).tracker = s.tracker := by cases k <;> rfl
@[simp] theorem State.takeLeaves_rx (k : TakeKind) (s : State) : (s.takeLeaves k).rx = s.rx := by cases k <;> rfl
@[simp] theorem State.takeLeaves_tx (k : TakeKind) (s : State) : (s.takeLeaves k).tx = s.tx := by cases k <;> rfl
@[simp] theorem State.takeLeaves_carry (k : TakeKind) (s : State) : (s.takeLeaves k).carry = s.carry := by cases k <;> rfl
@[simp] theorem State.takeLeaves_plan (k : TakeKind) (s : State) : (s.takeLeaves k).plan = s.plan := by cases k <;> rfl
@[simp] theorem State.takeLeaves_contexts (k : TakeKind) (s : State) : (s.takeLeaves k).contexts = s.contexts := by cases k <;> rfl
@[simp] theorem State.takeLeaves_filters (k : TakeKind) (s : State) : (s.takeLeaves k).filters = s.filters := by cases k <;> rfl
@[simp] theorem State.takeLeaves_responder (k : TakeKind) (s : State) : (s.takeLeaves k).responder = s.responder := by cases k <;> rfl
@[simp] theorem State.takeLeaves_config (k : TakeKind) (s : State) : (s.takeLeaves k).config = s.config := by cases k <;> rfl
@[simp] theorem State.takeLeaves_originator (k : TakeKind) (s : State) : (s.takeLeaves k).originator = s.originator := by cases k <;> rfl
@[simp] theorem State.takeLeaves_counters (k : TakeKind) (s : State) : (s.takeLeaves k).counters = s.counters := by cases k <;> rfl
@[simp] theorem State.takeLeaves_line (k : TakeKind) (s : State) : (s.takeLeaves k).line = s.line := by cases k <;> rfl
@[simp] theorem State.takeLeaves_choice (k : TakeKind) (s : State) : (s.takeLeaves k).choice = s.choice := by cases k <;> rfl
@[simp] theorem State.takeLeaves_unknowns (k : TakeKind) (s : State) : (s.takeLeaves k).unknowns = s.unknowns := by cases k <;> rfl
@[simp] theorem State.takeLeaves_pending (k : TakeKind) (s : State) : (s.takeLeaves k).pending = s.pending := by cases k <;> rfl
@[simp] theorem State.takeLeaves_inRound (k : TakeKind) (s : State) : (s.takeLeaves k).inRound = s.inRound := by simp [State.inRound]
@[simp] theorem State.takeLeaves_isMaster (k : TakeKind) (s : State) : (s.takeLeaves k).isMaster = s.isMaster := by simp [State.isMaster]

/-! ### unlessReset -/

@[simp] theorem State.unlessReset_released {s : State} (h : s.resetAsserted = false) (f : State → State) : s.unlessReset f = f s := by
  simp [State.unlessReset, h]
@[simp] theorem State.unlessReset_asserted {s : State} (h : s.resetAsserted = true) (f : State → State) : s.unlessReset f = s := by
  simp [State.unlessReset, h]

end Sys2Proof.Machine
end

