-- ==== Sys2Proof/Laws/Frames.lean ====
section
/-!
SUPPORT. What the slot, message, request, Take and Give operations leave alone: the input link, the tracker, the Plan
Store and RESET#.
Later proofs about those three cite these lemmas and never unfold the operations.
-/

namespace Sys2Proof.Machine

open Sys2Proof

/-! ### Slots -/

@[simp] theorem State.deliver_keeps (i : Fin 16) (tap : Bool) (c : RxCell) (s : State) :
    (s.deliver i tap c).2.inPort = s.inPort ∧ (s.deliver i tap c).2.tracker = s.tracker ∧ (s.deliver i tap c).2.plan = s.plan ∧
      (s.deliver i tap c).2.resetAsserted = s.resetAsserted := by
  unfold State.deliver; dsimp only; (repeat' split) <;> simp

@[simp] theorem State.dropSlot_keeps (i : Fin 16) (tap : Bool) (c : RxCell) (s : State) :
    (s.dropSlot i tap c).2.inPort = s.inPort ∧ (s.dropSlot i tap c).2.tracker = s.tracker ∧ (s.dropSlot i tap c).2.plan = s.plan ∧
      (s.dropSlot i tap c).2.resetAsserted = s.resetAsserted := by
  unfold State.dropSlot State.dropCell State.damagedDrop; dsimp only; (repeat' split) <;> simp

@[simp] theorem State.insertSlot_keeps (i : Fin 16) (c : RxCell) (s : State) :
    (s.insertSlot i c).2.inPort = s.inPort ∧ (s.insertSlot i c).2.tracker = s.tracker ∧ (s.insertSlot i c).2.plan = s.plan ∧
      (s.insertSlot i c).2.resetAsserted = s.resetAsserted := by
  unfold State.insertSlot State.insertCell; dsimp only; (repeat' split) <;> simp

@[simp] theorem State.processSlot_keeps (a : PlanEntry) (c : RxCell) (s : State) :
    (s.processSlot a c).2.inPort = s.inPort ∧ (s.processSlot a c).2.tracker = s.tracker ∧ (s.processSlot a c).2.plan = s.plan ∧
      (s.processSlot a c).2.resetAsserted = s.resetAsserted := by
  cases a <;> simp [State.processSlot, State.blankSlot] <;> split <;> simp

@[simp] theorem State.handleSlot_keeps (k : Nat) (c : RxCell) (s : State) :
    (s.handleSlot k c).inPort = s.inPort ∧ (s.handleSlot k c).tracker = s.tracker ∧ (s.handleSlot k c).plan = s.plan ∧
      (s.handleSlot k c).resetAsserted = s.resetAsserted := by
  simp [State.handleSlot]

@[simp] theorem State.carryCell_keeps (c : RxCell) (s : State) :
    (s.carryCell c).2.inPort = s.inPort ∧ (s.carryCell c).2.tracker = s.tracker ∧ (s.carryCell c).2.plan = s.plan ∧
      (s.carryCell c).2.resetAsserted = s.resetAsserted := by
  unfold State.carryCell; (repeat' split) <;> simp

@[simp] theorem State.carrySlot_keeps (s : State) :
    s.carrySlot.inPort = s.inPort ∧ s.carrySlot.tracker = s.tracker ∧ s.carrySlot.plan = s.plan ∧
      s.carrySlot.resetAsserted = s.resetAsserted := by
  unfold State.carrySlot; dsimp only; (repeat' split) <;> simp

/-! ### The Responder -/

@[simp] theorem State.answerBy_keeps (row : AnswerRow) (e : WorkEntry) (s : State) :
    (s.answerBy row e).2.2.inPort = s.inPort ∧ (s.answerBy row e).2.2.tracker = s.tracker ∧ (s.answerBy row e).2.2.plan = s.plan ∧
      (s.answerBy row e).2.2.resetAsserted = s.resetAsserted := by
  cases row <;> simp [State.answerBy, State.answerClaim, State.answerSwap] <;> (repeat' split) <;> simp

@[simp] theorem State.answerHead_keeps (row : AnswerRow) (s : State) :
    (s.answerHead row).inPort = s.inPort ∧ (s.answerHead row).tracker = s.tracker ∧ (s.answerHead row).plan = s.plan ∧
      (s.answerHead row).resetAsserted = s.resetAsserted := by
  unfold State.answerHead; dsimp only; (repeat' split) <;> simp

@[simp] theorem State.answerNext_keeps (s : State) :
    s.answerNext.inPort = s.inPort ∧ s.answerNext.tracker = s.tracker ∧ s.answerNext.plan = s.plan ∧
      s.answerNext.resetAsserted = s.resetAsserted := by
  unfold State.answerNext; split <;> simp

@[simp] theorem State.answerFor_keeps (n : Nat) (s : State) :
    (s.answerFor n).inPort = s.inPort ∧ (s.answerFor n).tracker = s.tracker ∧ (s.answerFor n).plan = s.plan ∧
      (s.answerFor n).resetAsserted = s.resetAsserted := by
  induction n generalizing s with
  | zero => exact ⟨rfl, rfl, rfl, rfl⟩
  | succ n ih => unfold State.answerFor; simp [ih]

@[simp] theorem State.answerAll_keeps (s : State) :
    s.answerAll.inPort = s.inPort ∧ s.answerAll.tracker = s.tracker ∧ s.answerAll.plan = s.plan ∧
      s.answerAll.resetAsserted = s.resetAsserted := State.answerFor_keeps _ s

/-! ### Requests and messages -/

theorem State.take_keeps {e : WorkEntry} {s t : State} (h : s.take e = some t) :
    t.inPort = s.inPort ∧ t.tracker = s.tracker ∧ t.plan = s.plan ∧
      t.resetAsserted = s.resetAsserted := by
  unfold State.take at h; dsimp only at h; (repeat' split at h) <;> cases h <;> simp

@[simp] theorem State.takeGroup_keeps (e : WorkEntry) (s : State) :
    (s.takeGroup e).inPort = s.inPort ∧ (s.takeGroup e).tracker = s.tracker ∧ (s.takeGroup e).plan = s.plan ∧
      (s.takeGroup e).resetAsserted = s.resetAsserted := by
  unfold State.takeGroup; dsimp only; (repeat' split) <;> simp

@[simp] theorem State.forward_keeps (m : RxMessage) (b : Bool) (s : State) :
    (s.forward m b).inPort = s.inPort ∧ (s.forward m b).tracker = s.tracker ∧ (s.forward m b).plan = s.plan ∧
      (s.forward m b).resetAsserted = s.resetAsserted := by
  unfold State.forward; (repeat' split) <;> simp

@[simp] theorem State.replyArrives_keeps (m : RxMessage) (s : State) :
    (s.replyArrives m).inPort = s.inPort ∧ (s.replyArrives m).tracker = s.tracker ∧ (s.replyArrives m).plan = s.plan ∧
      (s.replyArrives m).resetAsserted = s.resetAsserted := by
  unfold State.replyArrives; (repeat' split) <;> simp

@[simp] theorem State.requestReturns_keeps (k : ReqKind) (m : RxMessage) (s : State) :
    (s.requestReturns k m).inPort = s.inPort ∧ (s.requestReturns k m).tracker = s.tracker ∧ (s.requestReturns k m).plan = s.plan ∧
      (s.requestReturns k m).resetAsserted = s.resetAsserted := by
  unfold State.requestReturns; (repeat' split) <;> simp

@[simp] theorem State.noticeDelivered_keeps (m : RxMessage) (s : State) :
    (s.noticeDelivered m).inPort = s.inPort ∧ (s.noticeDelivered m).tracker = s.tracker ∧ (s.noticeDelivered m).plan = s.plan ∧
      (s.noticeDelivered m).resetAsserted = s.resetAsserted := by
  unfold State.noticeDelivered; dsimp only; (repeat' split) <;> simp

@[simp] theorem State.requestDelivered_keeps (k : ReqKind) (m : RxMessage) (s : State) :
    (s.requestDelivered k m).inPort = s.inPort ∧ (s.requestDelivered k m).tracker = s.tracker ∧ (s.requestDelivered k m).plan = s.plan ∧
      (s.requestDelivered k m).resetAsserted = s.resetAsserted := by
  unfold State.requestDelivered
  split
  · rename_i t h; exact State.take_keeps h
  · simp

@[simp] theorem State.groupReadSwap_keeps (k : ReqKind) (m : RxMessage) (s : State) :
    (s.groupReadSwap k m).2.inPort = s.inPort ∧ (s.groupReadSwap k m).2.tracker = s.tracker ∧ (s.groupReadSwap k m).2.plan = s.plan ∧
      (s.groupReadSwap k m).2.resetAsserted = s.resetAsserted := by
  unfold State.groupReadSwap
  (repeat' split) <;> try simp
  rename_i t h; exact State.take_keeps h

@[simp] theorem State.groupMessage_keeps (m : RxMessage) (s : State) :
    (s.groupMessage m).inPort = s.inPort ∧ (s.groupMessage m).tracker = s.tracker ∧ (s.groupMessage m).plan = s.plan ∧
      (s.groupMessage m).resetAsserted = s.resetAsserted := by
  unfold State.groupMessage; dsimp only; (repeat' split) <;> simp

@[simp] theorem State.delivered_keeps (m : RxMessage) (s : State) :
    (s.delivered m).inPort = s.inPort ∧ (s.delivered m).tracker = s.tracker ∧ (s.delivered m).plan = s.plan ∧
      (s.delivered m).resetAsserted = s.resetAsserted := by
  unfold State.delivered; (repeat' split) <;> simp

@[simp] theorem State.returned_keeps (m : RxMessage) (s : State) :
    (s.returned m).inPort = s.inPort ∧ (s.returned m).tracker = s.tracker ∧ (s.returned m).plan = s.plan ∧
      (s.returned m).resetAsserted = s.resetAsserted := by
  unfold State.returned; (repeat' split) <;> simp

@[simp] theorem State.handleMessage_keeps (m : RxMessage) (s : State) :
    (s.handleMessage m).inPort = s.inPort ∧ (s.handleMessage m).tracker = s.tracker ∧ (s.handleMessage m).plan = s.plan ∧
      (s.handleMessage m).resetAsserted = s.resetAsserted := by
  unfold State.handleMessage; (repeat' split) <;> simp

@[simp] theorem State.carryMessage_keeps (s : State) :
    s.carryMessage.inPort = s.inPort ∧ s.carryMessage.tracker = s.tracker ∧ s.carryMessage.plan = s.plan ∧
      s.carryMessage.resetAsserted = s.resetAsserted := by
  unfold State.carryMessage; dsimp only; (repeat' split) <;> simp

/-! ### The Tributary Port -/

@[simp] theorem State.insertOffer_keeps (f : List Half) (s : State) :
    (s.insertOffer f).2.inPort = s.inPort ∧ (s.insertOffer f).2.tracker = s.tracker ∧ (s.insertOffer f).2.plan = s.plan ∧
      (s.insertOffer f).2.resetAsserted = s.resetAsserted := by
  unfold State.insertOffer; dsimp only; (repeat' split) <;> simp

@[simp] theorem State.handSelf_keeps (e : WorkEntry) (s : State) :
    (s.handSelf e).inPort = s.inPort ∧ (s.handSelf e).tracker = s.tracker ∧ (s.handSelf e).plan = s.plan ∧
      (s.handSelf e).resetAsserted = s.resetAsserted := by
  unfold State.handSelf
  split
  · rename_i t h; exact State.take_keeps h
  · simp

@[simp] theorem State.requestOffer_keeps (f : List Half) (s : State) :
    (s.requestOffer f).inPort = s.inPort ∧ (s.requestOffer f).tracker = s.tracker ∧ (s.requestOffer f).plan = s.plan ∧
      (s.requestOffer f).resetAsserted = s.resetAsserted := by
  unfold State.requestOffer; dsimp only; (repeat' split) <;> simp

@[simp] theorem State.decideGive_keeps (f : List Half) (s : State) :
    (s.decideGive f).inPort = s.inPort ∧ (s.decideGive f).tracker = s.tracker ∧ (s.decideGive f).plan = s.plan ∧
      (s.decideGive f).resetAsserted = s.resetAsserted := by
  unfold State.decideGive; dsimp only; (repeat' split) <;> simp

@[simp] theorem State.giveFrame_keeps (f : List Half) (s : State) :
    (s.giveFrame f).inPort = s.inPort ∧ (s.giveFrame f).tracker = s.tracker ∧ (s.giveFrame f).plan = s.plan ∧
      (s.giveFrame f).resetAsserted = s.resetAsserted := by
  unfold State.giveFrame; dsimp only; (repeat' split) <;> simp

@[simp] theorem State.unstall_keeps (s : State) :
    s.unstall.inPort = s.inPort ∧ s.unstall.tracker = s.tracker ∧ s.unstall.plan = s.plan ∧
      s.unstall.resetAsserted = s.resetAsserted := by
  unfold State.unstall; dsimp only; (repeat' split) <;> simp

@[simp] theorem State.beginTake_keeps (k : TakeKind) (s : State) :
    (s.beginTake k).inPort = s.inPort ∧ (s.beginTake k).tracker = s.tracker ∧ (s.beginTake k).plan = s.plan ∧
      (s.beginTake k).resetAsserted = s.resetAsserted := by
  unfold State.beginTake; simp

@[simp] theorem State.takeStart_keeps (s : State) :
    s.takeStart.inPort = s.inPort ∧ s.takeStart.tracker = s.tracker ∧ s.takeStart.plan = s.plan ∧
      s.takeStart.resetAsserted = s.resetAsserted := by
  unfold State.takeStart; (repeat' split) <;> simp

@[simp] theorem State.takeEnd_keeps (s : State) :
    s.takeEnd.inPort = s.inPort ∧ s.takeEnd.tracker = s.tracker ∧ s.takeEnd.plan = s.plan ∧
      s.takeEnd.resetAsserted = s.resetAsserted := by
  unfold State.takeEnd; dsimp only; (repeat' split) <;> simp

@[simp] theorem State.timeOut_keeps (tag : Nat) (s : State) :
    (s.timeOut tag).inPort = s.inPort ∧ (s.timeOut tag).tracker = s.tracker ∧ (s.timeOut tag).plan = s.plan ∧
      (s.timeOut tag).resetAsserted = s.resetAsserted := by
  unfold State.timeOut; (repeat' split) <;> simp

/-! ### The framing of a round -/

@[simp] theorem State.checkTrailer_keeps (w : RxWord) (s : State) :
    (s.checkTrailer w).inPort = s.inPort ∧ (s.checkTrailer w).tracker = s.tracker ∧ (s.checkTrailer w).plan = s.plan ∧
      (s.checkTrailer w).resetAsserted = s.resetAsserted := by
  unfold State.checkTrailer; (repeat' split) <;> simp

@[simp] theorem State.outsideData_keeps (s : State) :
    s.outsideData.inPort = s.inPort ∧ s.outsideData.tracker = s.tracker ∧ s.outsideData.plan = s.plan ∧
      s.outsideData.resetAsserted = s.resetAsserted := by
  unfold State.outsideData; dsimp only; (repeat' split) <;> simp

@[simp] theorem State.discardRest_keeps (s : State) :
    s.discardRest.inPort = s.inPort ∧ s.discardRest.tracker = s.tracker ∧ s.discardRest.plan = s.plan ∧
      s.discardRest.resetAsserted = s.resetAsserted := by
  unfold State.discardRest; dsimp only; simp

@[simp] theorem State.memberSlot_keeps (c : RxCell) (s : State) :
    (s.memberSlot c).inPort = s.inPort ∧ (s.memberSlot c).tracker = s.tracker ∧ (s.memberSlot c).plan = s.plan ∧
      (s.memberSlot c).resetAsserted = s.resetAsserted := by
  unfold State.memberSlot; (repeat' split) <;> simp

@[simp] theorem State.memberMessage_keeps (m : RxMessage) (s : State) :
    (s.memberMessage m).inPort = s.inPort ∧ (s.memberMessage m).tracker = s.tracker ∧ (s.memberMessage m).plan = s.plan ∧
      (s.memberMessage m).resetAsserted = s.resetAsserted := by
  unfold State.memberMessage; (repeat' split) <;> simp

@[simp] theorem State.storeMissing_keeps (s : State) :
    s.storeMissing.inPort = s.inPort ∧ s.storeMissing.tracker = s.tracker ∧ s.storeMissing.plan = s.plan ∧
      s.storeMissing.resetAsserted = s.resetAsserted := by
  unfold State.storeMissing; dsimp only; simp

@[simp] theorem State.masterFill_keeps (s : State) :
    s.masterFill.inPort = s.inPort ∧ s.masterFill.tracker = s.tracker ∧ s.masterFill.plan = s.plan ∧
      s.masterFill.resetAsserted = s.resetAsserted := by
  unfold State.masterFill; dsimp only; simp

@[simp] theorem State.storeComplete_keeps (s : State) :
    s.storeComplete.inPort = s.inPort ∧ s.storeComplete.tracker = s.tracker ∧ s.storeComplete.plan = s.plan ∧
      s.storeComplete.resetAsserted = s.resetAsserted := by
  unfold State.storeComplete; dsimp only; simp

@[simp] theorem State.masterFinish_keeps (s : State) :
    s.masterFinish.inPort = s.inPort ∧ s.masterFinish.tracker = s.tracker ∧ s.masterFinish.plan = s.plan ∧
      s.masterFinish.resetAsserted = s.resetAsserted := by
  unfold State.masterFinish; (repeat' split) <;> simp

@[simp] theorem State.masterCell_keeps (c : RxCell) (s : State) :
    (s.masterCell c).inPort = s.inPort ∧ (s.masterCell c).tracker = s.tracker ∧ (s.masterCell c).plan = s.plan ∧
      (s.masterCell c).resetAsserted = s.resetAsserted := by
  unfold State.masterCell; dsimp only; (repeat' split) <;> simp

@[simp] theorem State.masterMessage_keeps (m : RxMessage) (s : State) :
    (s.masterMessage m).inPort = s.inPort ∧ (s.masterMessage m).tracker = s.tracker ∧ (s.masterMessage m).plan = s.plan ∧
      (s.masterMessage m).resetAsserted = s.resetAsserted := by
  unfold State.masterMessage; dsimp only; (repeat' split) <;> simp

@[simp] theorem State.masterTrailer_keeps (w : RxWord) (s : State) :
    (s.masterTrailer w).inPort = s.inPort ∧ (s.masterTrailer w).tracker = s.tracker ∧ (s.masterTrailer w).plan = s.plan ∧
      (s.masterTrailer w).resetAsserted = s.resetAsserted := by
  unfold State.masterTrailer; (repeat' split) <;> simp

@[simp] theorem State.lateReturn_keeps (s : State) :
    s.lateReturn.inPort = s.inPort ∧ s.lateReturn.tracker = s.tracker ∧ s.lateReturn.plan = s.plan ∧
      s.lateReturn.resetAsserted = s.resetAsserted := by
  unfold State.lateReturn; dsimp only; (repeat' split) <;> simp

@[simp] theorem State.markerInside_keeps (s : State) :
    s.markerInside.inPort = s.inPort ∧ s.markerInside.tracker = s.tracker ∧ s.markerInside.plan = s.plan ∧
      s.markerInside.resetAsserted = s.resetAsserted := by
  unfold State.markerInside; (repeat' split) <;> simp

@[simp] theorem State.passOn_keeps (x : TrunkItem) (s : State) :
    (s.passOn x).inPort = s.inPort ∧ (s.passOn x).tracker = s.tracker ∧ (s.passOn x).plan = s.plan ∧
      (s.passOn x).resetAsserted = s.resetAsserted := by
  unfold State.passOn; (repeat' split) <;> simp

@[simp] theorem State.relay_keeps (x : Symbol) (s : State) :
    (s.relay x).inPort = s.inPort ∧ (s.relay x).tracker = s.tracker ∧ (s.relay x).plan = s.plan ∧
      (s.relay x).resetAsserted = s.resetAsserted := by
  unfold State.relay; (repeat' split) <;> simp

@[simp] theorem State.cellArrives_keeps (c : RxCell) (s : State) :
    (s.cellArrives c).inPort = s.inPort ∧ (s.cellArrives c).tracker = s.tracker ∧ (s.cellArrives c).plan = s.plan ∧
      (s.cellArrives c).resetAsserted = s.resetAsserted := by
  unfold State.cellArrives; (repeat' split) <;> simp

@[simp] theorem State.messageArrives_keeps (m : RxMessage) (s : State) :
    (s.messageArrives m).inPort = s.inPort ∧ (s.messageArrives m).tracker = s.tracker ∧ (s.messageArrives m).plan = s.plan ∧
      (s.messageArrives m).resetAsserted = s.resetAsserted := by
  unfold State.messageArrives; (repeat' split) <;> simp

end Sys2Proof.Machine
end

