-- ==== Sys2Proof/Laws/Keep.lean ====
section
/-!
SUPPORT. What holds of every repeated operation: a property that one turn keeps is kept by all turns.  Also what the end
of a command does where nothing is due.
-/

namespace Sys2Proof.Machine

open Sys2Proof

/-! ### Nothing due -/

theorem State.settle_of_due_nil {s : State} (h : s.due = []) : s.settle = s := by
  simp [State.settle, settleFuel, State.settleFor, h]

theorem State.finish_of_due_nil {s : State} (h : s.due = []) : s.finish = s := by
  simp [State.finish, State.settle_of_due_nil h]

/-! ### What the part takes is due -/

@[simp] theorem Work.ready_choice (w : Work) (s : State) (n : Nat) : w.ready { s with choice := n } = w.ready s := by
  cases w <;> rfl

/-- Every step in the list of due steps is ready. -/
theorem State.ready_of_mem_due {s : State} {w : Work} (h : w ∈ s.due) : w.ready s = true := by
  unfold State.due at h
  split at h
  · rename_i e rest he
    simp only [List.mem_singleton] at h
    subst h
    simp [Work.ready, he]
  · exact (List.mem_filter.mp h).2

/-! ### Loops -/

/-- A property that every ready step keeps, and that does not look at `choice`, is kept while the part takes what is due. -/
theorem State.settleFor_keeps {P : State → Prop} (hc : ∀ (s : State) (n : Nat), P s → P { s with choice := n })
    (hw : ∀ (w : Work) (s : State), w.ready s = true → P s → P (w.perform s)) (n : Nat) {s : State} (h : P s) :
    P (s.settleFor n) := by
  induction n generalizing s with
  | zero => exact h
  | succ n ih =>
    unfold State.settleFor
    split
    · exact h
    · rename_i w rest hd
      refine ih (hw _ _ ?_ (hc _ _ h))
      rw [Work.ready_choice]
      apply State.ready_of_mem_due
      rw [hd]
      have hlt : s.choice % (w :: rest).length < (w :: rest).length := Nat.mod_lt _ (by simp)
      simp only [List.getD, List.getElem?_eq_getElem hlt, Option.getD_some]
      exact List.getElem_mem hlt

theorem State.settle_keeps {P : State → Prop} (hc : ∀ (s : State) (n : Nat), P s → P { s with choice := n })
    (hw : ∀ (w : Work) (s : State), w.ready s = true → P s → P (w.perform s)) {s : State} (h : P s) : P s.settle :=
  State.settleFor_keeps hc hw _ h

theorem State.finish_keeps {P : State → Prop} (hc : ∀ (s : State) (n : Nat), P s → P { s with choice := n })
    (hw : ∀ (w : Work) (s : State), w.ready s = true → P s → P (w.perform s)) {s : State} (h : P s) : P s.finish := by
  unfold State.finish
  split
  · exact h
  · exact State.settle_keeps hc hw h

theorem State.runWork_keeps {P : State → Prop} (hw : ∀ (w : Work) (s : State), w.ready s = true → P s → P (w.perform s))
    (w : Work) {s : State} (h : P s) : P (s.runWork w) := by
  unfold State.runWork
  split
  · rename_i hr; exact hw w s hr h
  · exact h

theorem State.memberMissing_keeps {P : State → Prop} (hs : ∀ s : State, P s → P s.settle)
    (hslot : ∀ (s : State) (c : RxCell), P s → P (s.memberSlot c)) (n : Nat) {s : State} (h : P s) : P (s.memberMissing n) := by
  induction n generalizing s with
  | zero => exact h
  | succ n ih =>
    unfold State.memberMissing
    split
    · exact ih (hs _ (hslot _ _ h))
    · exact h

theorem State.carrySlots_keeps {P : State → Prop} (hs : ∀ s : State, P s → P s.settle)
    (hslot : ∀ s : State, P s → P s.carrySlot) (n : Nat) {s : State} (h : P s) : P (s.carrySlots n) := by
  induction n generalizing s with
  | zero => exact h
  | succ n ih =>
    unfold State.carrySlots
    split
    · exact ih (hs _ (hslot _ h))
    · exact h

theorem State.carryMessages_keeps {P : State → Prop} (hs : ∀ s : State, P s → P s.settle)
    (hmsg : ∀ s : State, P s → P s.carryMessage) (n : Nat) {s : State} (h : P s) : P (s.carryMessages n) := by
  induction n generalizing s with
  | zero => exact h
  | succ n ih =>
    unfold State.carryMessages
    split
    · exact ih (hs _ (hmsg _ h))
    · exact h

theorem State.arbiter_keeps {P : State → Prop} (hc : ∀ s : State, P s → P (s.count .roomShort))
    (ho : ∀ (s : State) (o : Offer), s.inRound = true → P s → P (s.insertOffered o)) (n : Nat) {s : State} (h : P s) :
    P (s.arbiter n) := by
  induction n generalizing s with
  | zero => exact h
  | succ n ih =>
    unfold State.arbiter
    split
    · exact h
    · rename_i hr
      split
      · exact h
      · split
        · exact ih (ho _ _ (by simpa using hr) h)
        · exact hc _ h

/-- The trailer's last act keeps what looks only at the blocks (R9, step 3). -/
theorem State.sendTrailer_keeps {P : State → Prop} (hc : ∀ s : State, P s → P (s.count .roomShort))
    (ho : ∀ (s : State) (o : Offer), s.inRound = true → P s → P (s.insertOffered o))
    (hx : ∀ (s : State) (x : TrunkItem) (tx : TxRound) (rx : RxRound), P s → P { s.emit x with tx := tx, rx := rx }) {s : State}
    (h : P s) : P s.sendTrailer := by
  unfold State.sendTrailer
  dsimp only
  split
  · exact hx _ _ _ _ (State.arbiter_keeps hc ho _ h)
  · exact State.arbiter_keeps hc ho _ h

end Sys2Proof.Machine
end

