-- ==== Sys2Proof/Laws/Ops.lean ====
section
/-!
SUPPORT. For the shared operations, once each, all that they can do: the lemmas that later proofs cite in place of the
operation's text.
-/

namespace Sys2Proof.Machine

open Sys2Proof

/-! ### Sending, and updating a context -/

/-- All that sending can do is to lengthen the line. -/
theorem State.emit_eq (x : TrunkItem) (s : State) :
    s.emit x = { s with line := if s.outPort = .up then s.line ++ [x] else s.line } := by
  by_cases h : s.outPort = .up <;> simp [State.emit, h]

theorem State.mapCtx_eq_self (s : State) (i : Fin 16) (f : Context → Context) (h : f s.contexts[i] = s.contexts[i]) :
    s.mapCtx i f = s := by
  unfold State.mapCtx; rw [h]; simp

theorem State.mapCtx_same (s : State) (i : Fin 16) (f : Context → Context) : (s.mapCtx i f).contexts[i] = f s.contexts[i] := by
  simp [State.mapCtx]

theorem State.mapCtx_other (s : State) (i j : Fin 16) (f : Context → Context) (h : i ≠ j) :
    (s.mapCtx i f).contexts[j] = s.contexts[j] := by
  have h' : (i : Nat) ≠ j := fun e => h (Fin.ext e)
  simp [State.mapCtx, h']

/-! ### Slots -/

/-- An offer to the Drop Queue reaches only the context, the queue and the events. -/
theorem State.offer_frame (i : Fin 16) (a : Assembly) (s : State) :
    s.offer i a = { s with contexts := (s.offer i a).contexts, drop := (s.offer i a).drop, events := (s.offer i a).events } := by
  simp only [State.offer]; split
  · split <;> rfl
  · rfl

theorem State.deliver_frame (i : Fin 16) (tap : Bool) (c : RxCell) (s : State) :
    (s.deliver i tap c).2 =
      { s with
        contexts := (s.deliver i tap c).2.contexts
        drop := (s.deliver i tap c).2.drop
        events := (s.deliver i tap c).2.events } := by
  simp only [State.deliver]; split
  · rfl
  · rw [State.offer_frame]; rfl

theorem State.dropSlot_frame (i : Fin 16) (tap : Bool) (c : RxCell) (s : State) :
    (s.dropSlot i tap c).2 =
      { s with
        contexts := (s.dropSlot i tap c).2.contexts
        drop := (s.dropSlot i tap c).2.drop
        events := (s.dropSlot i tap c).2.events
        counters := (s.dropSlot i tap c).2.counters } := by
  simp only [State.dropSlot]; split
  · rfl
  · split
    · simp only [State.dropCell]; split
      · rfl
      · split
        · rfl
        · split
          · rfl
          · split
            · show State.count _ _ = _; rw [State.deliver_frame]; rfl
            · show (State.deliver _ _ _ _).2 = _; rw [State.deliver_frame]
    · rfl

/-- A slot reaches only the contexts, the Drop Queue, the events and the counters. -/
theorem State.processSlot_frame (a : PlanEntry) (c : RxCell) (s : State) :
    (s.processSlot a c).2 =
      { s with
        contexts := (s.processSlot a c).2.contexts
        drop := (s.processSlot a c).2.drop
        events := (s.processSlot a c).2.events
        counters := (s.processSlot a c).2.counters } := by
  cases a with
  | pass => rfl
  | follow => rfl
  | blank => simp only [State.processSlot, State.blankSlot]; split <;> rfl
  | tap i => exact State.dropSlot_frame i true c s
  | drop i => exact State.dropSlot_frame i false c s
  | insert i =>
    simp only [State.processSlot, State.insertSlot]; split
    · rfl
    · split
      · simp only [State.insertCell]; (repeat' split) <;> rfl
      · rfl

/-! ### Attempts and restarts -/

theorem State.beginAttempt_tracker (s : State) :
    s.beginAttempt.tracker = { s.tracker with phase := .claiming, nodeId := none, role := .member, enumTimer := 0 } := by
  unfold State.beginAttempt; dsimp only; split <;> simp

theorem State.enterEnumerating_tracker (s : State) :
    s.enterEnumerating.tracker = s.tracker.attempt (if s.tracker.tracking = .isolated then 0 else s.tracker.failed) := by
  unfold State.enterEnumerating Tracker.attempt; dsimp only; simp [State.beginAttempt_tracker]

/-! ### The edit list -/

theorem PlanStore.applyEdit_frame (p : PlanStore) (e : Edit) :
    p.applyEdit e =
      { p with bankA := (p.applyEdit e).bankA, bankB := (p.applyEdit e).bankB, rotation := (p.applyEdit e).rotation } := by
  cases e with
  | slot bank k e => cases bank <;> rfl
  | bankDefault bank e => cases bank <;> rfl
  | rotation r => rfl

/-- The edits of a list reach only the banks and the rotation. -/
theorem PlanStore.applyEdits_frame (es : List Edit) (p : PlanStore) :
    es.foldl PlanStore.applyEdit p =
      { p with
        bankA := (es.foldl PlanStore.applyEdit p).bankA
        bankB := (es.foldl PlanStore.applyEdit p).bankB
        rotation := (es.foldl PlanStore.applyEdit p).rotation } := by
  induction es generalizing p with
  | nil => rfl
  | cons e es ih => simp only [List.foldl_cons]; rw [ih, PlanStore.applyEdit_frame p e]

/-! ### Requests -/

/-- The one step that answers the request in front, where its row is the command's. -/
theorem State.runWork_answer {e : WorkEntry} {rest : List WorkEntry} {s : State} (h : s.AnswerDue e rest) (row : AnswerRow)
    (hr : e.answerRow = row) (ho : e.origin ≠ .group) (hp : e.place = true) :
    s.runWork (.answer row) =
      (((s.unanswered rest).answerBy row e).2.2).fillReply e ((s.unanswered rest).answerBy row e).1
        ((s.unanswered rest).answerBy row e).2.1 none := by
  have hready : Work.ready (.answer row) s = true := by
    simp only [Work.ready]; rw [show s.responder.answering = e :: rest from h]; simp [hr]
  simp only [State.runWork, hready, if_true, Work.perform, State.answerHead]
  rw [show s.responder.answering = e :: rest from h]
  simp only [hr, if_true]
  simp [ho, hp]
  rfl

/-- The one step that applies the entry in front, where its row is the command's. -/
theorem State.runWork_apply {e : WorkEntry} {rest : List WorkEntry} {s : State} (h : s.HeadDue e rest) (row : WorkRow)
    (hr : e.row = row) : s.runWork (.apply row) = State.report e ((s.popped rest).applyBy row e.body) := by
  have hready : Work.ready (.apply row) s = true := by
    simp only [Work.ready]; rw [h.1]; simp [hr, h.2]
  simp only [State.runWork, hready, if_true, Work.perform, State.applyHead]
  rw [h.1]
  simp [hr, h.2]
  rfl

/-- A command to one of the sixteen contexts. -/
theorem State.contextCommand_of (s : State) (n : Nat) (f : Context → Status × Context) (i : Fin 16) (h : n = i.val) :
    s.contextCommand n f =
      if (f s.contexts[i]).1 = .ok then (.ok, contextBody (f s.contexts[i]).2, s.mapCtx i fun _ => (f s.contexts[i]).2)
      else ((f s.contexts[i]).1, [], s) := by
  have : ctxOf n = i := by unfold ctxOf; apply Fin.ext; simp [h]
  unfold State.contextCommand
  rw [if_neg (by omega)]; simp only [this]

/-- A refused edit leaves the Plan Store as it stood. -/
theorem PlanStore.takeEdit_refused {p q : PlanStore} {e : Edit} {st : Status} (h : p.takeEdit e = (st, q)) (hs : st ≠ .ok) : q = p := by
  unfold PlanStore.takeEdit at h
  (repeat' split at h) <;> cases h <;> first | rfl | exact absurd rfl hs

/-! ### The Tributary Port -/

/-- While GREADY is high and nothing stands on the lane, a frame is decided at once. -/
theorem State.giveFrame_taken {s : State} (hr : s.resetAsserted = false) (hg : s.port.giveResults.length < 4)
    (hl : s.port.stalled = []) (f : List Half) : s.giveFrame f = s.decideGive f := by
  simp [State.giveFrame, State.gready, hr, hg, hl, Config.giveResultLimit]

end Sys2Proof.Machine
end

