-- ==== Sys2Proof/Laws/Tracker.lean ====
section
/-!
SUPPORT. The tracker and the input link under what the Responder applies, and the tracker under everything the part takes
by itself: it is left as it was, or the node leaves IN_ROUND.  RESET# is left as it is by all of it.
-/

namespace Sys2Proof.Machine

open Sys2Proof

/-! ### Writes and commands leave the tracker and the input link alone -/

theorem State.writeWord_keeps (space i : Nat) (w : Word) (s : State) :
    (s.writeWord space i w).2.tracker = s.tracker ∧ (s.writeWord space i w).2.inPort = s.inPort := by
  unfold State.writeWord State.writeConfigWord
  (repeat' split) <;> first | exact ⟨rfl, rfl⟩ | (unfold State.reminderEnds; dsimp only; (repeat' split) <;> exact ⟨rfl, rfl⟩)

theorem State.writeWords_keeps (ws : List Word) (space i : Nat) (s : State) :
    (s.writeWords space i ws).2.2.tracker = s.tracker ∧ (s.writeWords space i ws).2.2.inPort = s.inPort := by
  induction ws generalizing s i with
  | nil => exact ⟨rfl, rfl⟩
  | cons w ws ih =>
    unfold State.writeWords
    dsimp only
    split
    · rw [(ih _ _).1, (ih _ _).2]; exact State.writeWord_keeps space i w s
    · exact State.writeWord_keeps space i w s

theorem State.applyWrite_keeps (body : List Word) (s : State) :
    (s.applyWrite body).2.2.2.2.tracker = s.tracker ∧ (s.applyWrite body).2.2.2.2.inPort = s.inPort := by
  unfold State.applyWrite
  split
  · exact ⟨rfl, rfl⟩
  · exact State.writeWords_keeps _ _ _ _

/-- No row of the work queue touches the tracker or the input link: a released command acts at its release (R149). -/
theorem State.applyBy_keeps (row : WorkRow) (body : List Word) (s : State) :
    (s.applyBy row body).2.2.2.2.tracker = s.tracker ∧ (s.applyBy row body).2.2.2.2.inPort = s.inPort := by
  cases row <;> simp only [State.applyBy, plainly] <;> try exact State.applyWrite_keeps body s
  · unfold State.commitPlan; dsimp only; (repeat' split) <;> exact ⟨rfl, rfl⟩
  · unfold State.cancelCommit; dsimp only; (repeat' split) <;> exact ⟨rfl, rfl⟩
  · unfold State.contextCommand; dsimp only; (repeat' split) <;> exact ⟨rfl, rfl⟩
  · unfold State.contextCommand; dsimp only; (repeat' split) <;> exact ⟨rfl, rfl⟩
  · unfold State.contextCommand; dsimp only; (repeat' split) <;> exact ⟨rfl, rfl⟩
  · exact ⟨rfl, rfl⟩
  · unfold State.clearEvents State.reminderEnds; dsimp only; (repeat' split) <;> exact ⟨rfl, rfl⟩
  · split <;> exact ⟨rfl, rfl⟩
  · split <;> exact ⟨rfl, rfl⟩
  · exact ⟨rfl, rfl⟩
  · unfold State.takeHolder; split <;> simp
  · unfold State.dropHolder; split <;> simp
  · simp
  · simp

theorem State.report_keeps (e : WorkEntry) (a : Applied) :
    (State.report e a).tracker = a.2.2.2.2.tracker ∧ (State.report e a).inPort = a.2.2.2.2.inPort := by
  obtain ⟨st, b, i, r, t⟩ := a
  unfold State.report State.addRelease
  dsimp only
  (repeat' split) <;> simp

theorem State.applyHead_keeps (row : WorkRow) (s : State) :
    (s.applyHead row).tracker = s.tracker ∧ (s.applyHead row).inPort = s.inPort := by
  unfold State.applyHead
  split
  · exact ⟨rfl, rfl⟩
  · split
    · exact ⟨(State.report_keeps _ _).1.trans (State.applyBy_keeps _ _ _).1, (State.report_keeps _ _).2.trans (State.applyBy_keeps _ _ _).2⟩
    · exact ⟨rfl, rfl⟩

/-! ### What the part takes by itself leaves the tracker alone, or takes the node out of IN_ROUND -/

theorem State.originateRestart_leaves (s : State) : s.originateRestart.tracker.tracking ≠ .inRound := by
  unfold State.originateRestart
  split
  · rename_i h; rw [State.beginAttempt_tracker]; simp [State.sendRestart, h]
  · simp [State.enterEnumerating, State.beginAttempt_tracker, State.handRestart, State.abandonAll]

theorem State.restartReleased_tracker (s : State) :
    s.restartReleased.tracker = s.tracker ∨ s.restartReleased.tracker.tracking ≠ .inRound := by
  unfold State.restartReleased
  split
  · exact .inl rfl
  · exact .inr (State.originateRestart_leaves s)

theorem State.leaveUp_leaves (s : State) : s.leaveUp.tracker.tracking ≠ .inRound := by
  unfold State.leaveUp
  dsimp only
  split <;> simp [State.handRestart, State.abandonAll]

theorem State.enumerationTimeout_leaves (s : State) : s.enumerationTimeout.tracker.tracking ≠ .inRound := by
  unfold State.enumerationTimeout
  dsimp only
  split
  · exact State.originateRestart_leaves _
  · simp

/-- A step that the part takes by itself. -/
theorem Work.perform_tracker (w : Work) (s : State) :
    (w.perform s).tracker = s.tracker ∨ (w.perform s).tracker.tracking ≠ .inRound := by
  cases w <;> simp only [Work.perform]
  case answer => exact .inl (by simp)
  case unstall => exact .inl (by simp)
  case raiseUp => exact .inl rfl
  case raiseLate => exact .inl rfl
  case linkUp => exact .inr (by simp [State.linkUp])
  case errorRunLimit => exact .inr (State.leaveUp_leaves _)
  case missedRoundMember => exact .inr (State.originateRestart_leaves _)
  case missedRoundMaster => exact .inr (State.originateRestart_leaves _)
  case seekTimeout => exact .inr (State.originateRestart_leaves _)
  case enumerationTimeout => exact .inr (State.enumerationTimeout_leaves _)
  case isolationRetry => exact .inr (State.originateRestart_leaves _)
  case planRestart => exact .inl (by unfold State.planRestart; dsimp only; split <;> simp)
  case commitApplied => exact .inl (by unfold State.applyCommit; dsimp only; (repeat' split) <;> simp)
  case claimExpired => exact .inl (by simp [State.expireClaim])
  case contextResume => exact .inl (by simp [State.resumeAll])
  case staleAssembly => exact .inl (by simp [State.endStale])
  case insertDrained => exact .inl (by simp [State.endDrain])
  case apply => exact .inl (State.applyHead_keeps _ _).1
  case transactionTimeout => exact .inl (by simp)
  case noticeReminder => exact .inl rfl
  case restartRelease => exact State.restartReleased_tracker _
  case softReset => exact .inl rfl

/-- Everything that is due. -/
theorem State.settle_tracker (s : State) : s.settle.tracker = s.tracker ∨ s.settle.tracker.tracking ≠ .inRound :=
  State.settle_keeps (P := fun t => t.tracker = s.tracker ∨ t.tracker.tracking ≠ .inRound) (fun _ _ h => h)
    (fun w t _ h => by
      rcases Work.perform_tracker w t with e | e
      · rw [e]; exact h
      · exact .inr e) (.inl rfl)

/-- The slots that did not arrive, with what they make due. -/
theorem State.memberMissing_tracker (n : Nat) (s : State) :
    (s.memberMissing n).tracker = s.tracker ∨ (s.memberMissing n).tracker.tracking ≠ .inRound :=
  State.memberMissing_keeps (P := fun t => t.tracker = s.tracker ∨ t.tracker.tracking ≠ .inRound)
    (fun t h => by
      rcases State.settle_tracker t with e | e
      · rw [e]; exact h
      · exact .inr e)
    (fun t c h => by simpa using h) n (.inl rfl)

theorem State.memberFill_tracker (s : State) :
    s.memberFill.tracker = s.tracker ∨ s.memberFill.tracker.tracking ≠ .inRound :=
  State.memberMissing_tracker _ s.framingFault

/-- A TRAILER marker, with the slots that it fills in. -/
theorem State.trailerMarker_tracker (s : State) :
    s.trailerMarker.tracker = s.tracker ∨ s.trailerMarker.tracker.tracking ≠ .inRound := by
  unfold State.trailerMarker
  (repeat' split)
  · exact .inl (by simp)
  · exact s.memberFill_tracker
  · exact .inl rfl

/-- An insertion, with the release that it makes (R149). -/
theorem State.insertOffered_tracker (o : Offer) (s : State) :
    (s.insertOffered o).tracker = s.tracker ∨ (s.insertOffered o).tracker.tracking ≠ .inRound := by
  unfold State.insertOffered State.ownerActs
  cases o with
  | notice => exact .inl (by simp)
  | request => exact .inl (by simp)
  | reply r =>
    simp only
    unfold State.releaseMark
    split
    · exact .inl (by simp)
    · exact .inl (by simp [State.softReset, State.abandonAll])
    · rcases State.restartReleased_tracker _ with e | e
      · exact .inl (e.trans (by simp))
      · exact .inr e

/-- The trailer, with what is inserted before it. -/
theorem State.sendTrailer_tracker (s : State) :
    s.sendTrailer.tracker = s.tracker ∨ s.sendTrailer.tracker.tracking ≠ .inRound :=
  State.sendTrailer_keeps (P := fun t => t.tracker = s.tracker ∨ t.tracker.tracking ≠ .inRound)
    (fun t h => by simpa using h)
    (fun t o _ h => by
      rcases State.insertOffered_tracker o t with e | e
      · rw [e]; exact h
      · exact .inr e)
    (fun t x tx rx h => by simpa using h) (.inl rfl)

/-! ### RESET# is the host's pin: nothing that the part does by itself moves it -/

theorem State.writeWord_resetAsserted (space i : Nat) (w : Word) (s : State) :
    (s.writeWord space i w).2.resetAsserted = s.resetAsserted := by
  unfold State.writeWord State.writeConfigWord
  (repeat' split) <;> first | rfl | (unfold State.reminderEnds; dsimp only; (repeat' split) <;> rfl)

theorem State.writeWords_resetAsserted (ws : List Word) (space i : Nat) (s : State) :
    (s.writeWords space i ws).2.2.resetAsserted = s.resetAsserted := by
  induction ws generalizing s i with
  | nil => rfl
  | cons w ws ih =>
    unfold State.writeWords
    dsimp only
    split
    · rw [ih]; exact State.writeWord_resetAsserted space i w s
    · exact State.writeWord_resetAsserted space i w s

theorem State.applyWrite_resetAsserted (body : List Word) (s : State) :
    (s.applyWrite body).2.2.2.2.resetAsserted = s.resetAsserted := by
  unfold State.applyWrite
  split
  · rfl
  · exact State.writeWords_resetAsserted _ _ _ _

theorem State.applyBy_resetAsserted (row : WorkRow) (body : List Word) (s : State) :
    (s.applyBy row body).2.2.2.2.resetAsserted = s.resetAsserted := by
  cases row <;> simp only [State.applyBy, plainly] <;> try exact State.applyWrite_resetAsserted body s
  · unfold State.commitPlan; dsimp only; (repeat' split) <;> rfl
  · unfold State.cancelCommit; dsimp only; (repeat' split) <;> rfl
  · unfold State.contextCommand; dsimp only; (repeat' split) <;> rfl
  · unfold State.contextCommand; dsimp only; (repeat' split) <;> rfl
  · unfold State.contextCommand; dsimp only; (repeat' split) <;> rfl
  · rfl
  · unfold State.clearEvents State.reminderEnds; dsimp only; (repeat' split) <;> rfl
  · split <;> rfl
  · split <;> rfl
  · rfl
  · unfold State.takeHolder; split <;> simp
  · unfold State.dropHolder; split <;> simp

theorem State.report_resetAsserted (e : WorkEntry) (a : Applied) :
    (State.report e a).resetAsserted = a.2.2.2.2.resetAsserted := by
  obtain ⟨st, b, i, r, t⟩ := a
  unfold State.report State.addRelease
  dsimp only
  (repeat' split) <;> simp

theorem State.applyHead_resetAsserted (row : WorkRow) (s : State) : (s.applyHead row).resetAsserted = s.resetAsserted := by
  unfold State.applyHead
  split
  · rfl
  · split
    · exact (State.report_resetAsserted _ _).trans (State.applyBy_resetAsserted _ _ _)
    · rfl

theorem State.originateRestart_resetAsserted (s : State) : s.originateRestart.resetAsserted = s.resetAsserted := by
  unfold State.originateRestart State.beginAttempt State.enterEnumerating State.sendRestart State.handRestart State.abandonAll
  dsimp only
  (repeat' split) <;> simp

theorem State.restartReleased_resetAsserted (s : State) : s.restartReleased.resetAsserted = s.resetAsserted := by
  unfold State.restartReleased
  split
  · rfl
  · exact State.originateRestart_resetAsserted s

/-- A step that the part takes by itself. -/
theorem Work.perform_resetAsserted (w : Work) (s : State) : (w.perform s).resetAsserted = s.resetAsserted := by
  cases w <;> simp only [Work.perform]
  case answer => simp
  case unstall => simp
  case raiseUp => rfl
  case raiseLate => rfl
  case linkUp => simp [State.linkUp]
  case errorRunLimit => unfold State.linkLost State.leaveUp; dsimp only; split <;> simp [State.handRestart, State.abandonAll]
  case missedRoundMember => exact (State.originateRestart_resetAsserted _).trans (by simp)
  case missedRoundMaster => exact (State.originateRestart_resetAsserted _).trans (by simp)
  case seekTimeout => exact (State.originateRestart_resetAsserted _).trans (by simp)
  case enumerationTimeout =>
    unfold State.enumerationTimeout; dsimp only; split
    · exact (State.originateRestart_resetAsserted _).trans (by simp)
    · simp
  case isolationRetry => exact (State.originateRestart_resetAsserted _).trans (by simp)
  case planRestart => unfold State.planRestart; dsimp only; split <;> simp
  case commitApplied => unfold State.applyCommit; dsimp only; (repeat' split) <;> simp
  case claimExpired => simp [State.expireClaim]
  case contextResume => simp [State.resumeAll]
  case staleAssembly => simp [State.endStale]
  case insertDrained => simp [State.endDrain]
  case apply => exact State.applyHead_resetAsserted _ _
  case transactionTimeout => simp
  case noticeReminder => rfl
  case restartRelease => exact State.restartReleased_resetAsserted _
  case softReset => rfl

theorem State.settle_resetAsserted (s : State) : s.settle.resetAsserted = s.resetAsserted :=
  State.settle_keeps (P := fun t => t.resetAsserted = s.resetAsserted) (fun _ _ h => h)
    (fun w t _ h => (Work.perform_resetAsserted w t).trans h) rfl

theorem State.memberMissing_resetAsserted (n : Nat) (s : State) : (s.memberMissing n).resetAsserted = s.resetAsserted :=
  State.memberMissing_keeps (P := fun t => t.resetAsserted = s.resetAsserted)
    (fun t h => (State.settle_resetAsserted t).trans h) (fun t c h => by simpa using h) n rfl

theorem State.memberFill_resetAsserted (s : State) : s.memberFill.resetAsserted = s.resetAsserted :=
  State.memberMissing_resetAsserted _ s.framingFault

theorem State.trailerMarker_resetAsserted (s : State) : s.trailerMarker.resetAsserted = s.resetAsserted := by
  unfold State.trailerMarker
  (repeat' split)
  · simp
  · exact s.memberFill_resetAsserted
  · rfl

theorem State.insertOffered_resetAsserted (o : Offer) (s : State) : (s.insertOffered o).resetAsserted = s.resetAsserted := by
  unfold State.insertOffered State.ownerActs
  cases o with
  | notice => simp
  | request => simp
  | reply r =>
    simp only
    unfold State.releaseMark
    split
    · simp
    · simp [State.softReset, State.abandonAll]
    · exact (State.restartReleased_resetAsserted _).trans (by simp)

theorem State.sendTrailer_resetAsserted (s : State) : s.sendTrailer.resetAsserted = s.resetAsserted :=
  State.sendTrailer_keeps (P := fun t => t.resetAsserted = s.resetAsserted)
    (fun t h => by simpa using h) (fun t o _ h => (State.insertOffered_resetAsserted o t).trans h)
    (fun t x tx rx h => by simpa using h) rfl

end Sys2Proof.Machine
end

