-- ==== Sys2Proof/Tests/Slice0.lean ====
section
/-!
SUPPORT. Tests: what well-formedness refuses, the spec's worked examples and bounds, and for every statement a state and
operands that meet its hypotheses (`witness_<statement>`, one conjunct for each clause, at the clauses' bounds).
-/

namespace Sys2Proof.Tests

open Sys2Proof Sys2Proof.Machine

-- Checked one after another: many small kernel evaluations at once would hold a thread each.
set_option Elab.async false

/-! ### Words, structures and states that the tests share -/

def word (v : Word) : RxWord := { value := v }
def badWord : RxWord := { value := 0, bad := true }

/-- The words of a RESTART marker of a serial; with a wrong check where `good` is false. -/
def marker (good : Bool) (s : Serial) : RxWord × RxWord × RxWord :=
  (word (serialLow s), word (serialHigh s), word (crc32 [serialLow s, serialHigh s] + if good then 0 else 1))

/-- The words of an enumeration frame; with a wrong check where `good` is false. -/
def frame (good : Bool) (kind rank call next : Nat) (s : Serial) : RxWord × RxWord × RxWord × RxWord :=
  let w := enumWord0 kind rank call next
  (word w, word (serialLow s), word (serialHigh s), word (crc32 [w, serialLow s, serialHigh s] + if good then 0 else 1))

/-- The words of a round header. -/
def header (n : RoundNo) (p : RoundParams) : RxWord × RxWord × RxWord :=
  (word (headerWord0 n p), word (headerWord1 p), word (crc32 [headerWord0 n p, headerWord1 p]))

/-- A node whose two links are UP. -/
def upWith (t : Tracker) : State := { resetAsserted := false, inPort := { link := .up }, outPort := .up, tracker := t }

def seeking : State := upWith { tracking := .seeking, rank := 2, serial := 7 }
def enumerating (p : EnumPhase) : State := upWith { tracking := .enumerating, phase := p, rank := 2, serial := 7 }
def member : State :=
  upWith { tracking := .inRound, nodeId := some 5, params := { nodeCount := 10 }, epoch := 1, rank := 1, serial := 7 }
def master : State :=
  upWith { tracking := .inRound, nodeId := some 0, role := .master, params := { nodeCount := 10 }, epoch := 1, rank := 1, serial := 7 }

/-- A member with context 0 as given. -/
def withCtx (c : Context) : State := { member with contexts := member.contexts.set 0 c }
def dropCtx : Context := { config := { tag := 9 }, state := .running }
def insertCtx : Context := { config := { direction := .insertSide, tag := 9 }, state := .running, seq := some 0 }
def cell (tag : Nat) : RxCell := buildCell tag 0 3 4 [1, 2, 3, 4]
def badCell : RxCell := { cell 9 with header := badWord }

/-- A member with the entry at the front of its work queue, due. -/
def withHead (e : WorkEntry) : State := { member with responder := { work := [e], applyDue := 1 } }
/-- A request body of a command: code, form and operand. -/
def command (code form operand : Nat) : List Word := [field 31 24 code ||| field 17 16 form ||| field 15 0 operand]
def entry (kind : ReqKind) (body : List Word) : WorkEntry :=
  { kind, origin := .unicast, source := .node 3, tag := 1, place := true, body }
/-- A member with the request waiting for its answer. -/
def withAnswer (e : WorkEntry) (c : ClaimRecord) : State := { member with responder := { answering := [e], claim := c } }

/-! ### Well-formedness refuses an operand of another row -/

theorem test_wf_claim_frame : (Instr.claimFrameArrival (frame true 2 1 0 1 7).1 badWord badWord badWord).wellFormed = false := by
  decide
theorem test_wf_roll_call : (Instr.rollCallArrival (frame true 1 1 0 1 7).1 badWord badWord badWord).wellFormed = false := by decide
theorem test_wf_message :
    (Instr.messageArrival { head0 := word 0, head1 := word (msgWord1 0 2), body := [word 0], check := word 0 }).wellFormed = false := by
  decide
theorem test_wf_returning_message :
    (Instr.returningMessageArrival { head0 := word 0, head1 := word (msgWord1 0 1), body := [], check := word 0 }).wellFormed = false := by
  decide
theorem test_wf_insert_record : (Instr.insertRecord [0x0200, 0]).wellFormed = false := by decide
theorem test_wf_local_request : (Instr.localRequest [0x0100, 0]).wellFormed = false := by decide
theorem test_wf_unknown_frame : (Instr.giveFrameUnknown [0x0100, 0]).wellFormed = false := by decide
theorem test_wf_short_frame : (Instr.giveFrameUnknown [0x0500]).wellFormed = false := by decide

/-! ### The spec's worked examples -/

/-- 6.1, Example: evaluating two units. -/
def unit2 : FilterUnit := { pattern := 0x01000000, mask := 0xFF000000 }
def unit5 : FilterUnit := { pattern := 0x00800000, mask := 0x00800000 }

theorem test_filter_records :
    [0x01803300#32, 0x017F0000#32, 0x03C00000#32, 0x00000000#32].map (fun t => (unit2.matches t, unit5.matches t)) =
      [(true, true), (true, false), (false, true), (false, false)] := by decide

/-- 7.1: records of 58 and of 384 bytes are charged 68 and 392. -/
theorem test_drop_charge :
    [58, 384].map (fun n => dropCharge { ctx := 0, tag := 0, cells := 1, firstRound := 0, tapped := false, resync := false, payload := List.replicate n 0 }) =
      [68, 392] := by decide +kernel

/-- 7.3: a record of 50 bytes is charged 56. -/
theorem test_insert_charge : insertCharge { payload := List.replicate 50 0 } = 56 := by decide

/-- 00_scope, the system example: 1600 words in one 250 µs period. -/
theorem test_period_words : [Period.us125, .us250, .us500, .us1000].map wordsPerPeriod = [800, 1600, 3200, 6400] := by decide

/-- R12 at 125 µs with 48 slots and 480 words asked for: 800 - 4 - 336 = 460 are left. -/
theorem test_effective_capacity :
    (effectiveParams { period := .us125, slotCount := 48, openCapacity := 480 } 3).openCapacity = 460 := by decide

/-- 3.3, Example: resolving plans through a rotation: rounds 300 to 302, slots 8 and 9. -/
def examplePlan : PlanStore :=
  { bankA := { slots := ((Vector.replicate 48 PlanEntry.follow).set 9 (.insert 2)).set 40 .blank, dflt := .pass }
    bankB := { slots := ((Vector.replicate 48 PlanEntry.follow).set 8 (.drop 0)).set 40 .blank, dflt := .blank }
    rotation := { length := 3, steps := ((Vector.replicate 12 RotationStep.a).set 1 .b).set 2 .quiet } }

theorem test_plan_rounds :
    [300#16, 301#16, 302#16].map (fun n => (((examplePlan.build n 32).actions.getD 8 .follow), (examplePlan.build n 32).actions.getD 9 .follow)) =
      [(.pass, .insert 2), (.drop 0, .blank), (.pass, .pass)] := by decide +kernel

/-- 1.3, Example: the open region through one member: 26 words in 3 messages leave room 166, which agrees. -/
def exampleTrailer : RxWord := { value := 0x5301802E#32 }

theorem test_trailer_built : buildTrailer 166 3 = .trailer exampleTrailer := by decide +kernel
theorem test_trailer_good : trailerGood exampleTrailer = true := by decide +kernel
theorem test_trailer_fields : trailerRoom exampleTrailer = 192 - (13 + 5 + 8) ∧ trailerCount exampleTrailer = 3 := by decide

/-- The published check value of the CRC-32 that R182 states (polynomial 04C11DB7, preset ones, inverted, not reflected) over
the bytes "123456789". -/
theorem test_crc32_check_value :
    ~~~((([0x31, 0x32, 0x33, 0x34, 0x35, 0x36, 0x37, 0x38, 0x39] : List Byte).flatMap fun b =>
      (List.range 8).map fun i => b.getMsbD i).foldl crc32Step 0xFFFFFFFF#32) = 0xFC891918#32 := by decide +kernel

/-- R59: the idle cell that a node sends is not DAMAGED and has tag 0. -/
theorem test_idle_cell : cellDamaged idleCell = false ∧ cellTag idleCell = 0 := ⟨idleCell_not_damaged, cellTag_idleCell⟩

/-- R182: a header that the part builds is good, and one with a bit of it changed is not. -/
theorem test_header_check :
    headerGood (header 5 {}).1 (header 5 {}).2.1 (header 5 {}).2.2 = true ∧
      headerGood (header 6 {}).1 (header 5 {}).2.1 (header 5 {}).2.2 = false := by decide +kernel

/-- R21: the lower rank wins, then the larger serial. -/
theorem test_better_candidate :
    betterCandidate 1 3 2 9 = true ∧ betterCandidate 2 10 2 9 = true ∧ betterCandidate 2 9 2 9 = false ∧ betterCandidate 3 99 2 9 = false := by
  decide

/-- R50: ahead of n means (target - n) mod 65536 in 1..32767. -/
theorem test_ahead :
    ahead 1 0 = true ∧ ahead 32767 0 = true ∧ ahead 32768 0 = false ∧ ahead 0 0 = false ∧ ahead 3 65530 = true := by decide

/-- R152: a requested lease is clipped into 16..4096. -/
theorem test_lease : [0, 16, 4096, 65535].map clipLease = [16, 16, 4096, 4096] := by decide

/-- R70: 50 bytes go out in 3 cells: START, MIDDLE, END, the last with a fill of 2. -/
theorem test_insert_cells :
    recordCells { payload := List.replicate 50 0 } = 3 ∧ [0, 1, 2].map (fun i => insertBoundary i 3) = [0, 1, 2] ∧
      [0, 1, 2].map (fun i => insertFill i { payload := List.replicate 50 0 }) = [24, 24, 2] := by decide

/-- R84: a fill outside 1..24 is read as 24. -/
theorem test_fill : [0, 1, 24, 25, 31].map effectiveFill = [24, 1, 24, 24, 24] := by decide

/-- R165: the lowest ring tag not in use. -/
theorem test_lowest_tag :
    lowestFreeTag [{ ref := 0, tag := 0, dest := 1, kind := .read, body := [] }, { ref := 0, tag := 2, dest := 1, kind := .read, body := [] }] = 1 := by
  decide

/-- A counter stands at 65535 (00_scope, Counters). -/
theorem test_counter_saturates : satAdd 65535 1 = 65535 ∧ satAdd 65530 9 = 65535 ∧ satAdd 3 1 = 4 := by decide

/-! ### For every statement, a state and operands that meet its hypotheses -/

def inOpen : State := { member with rx := { phase := .openRegion } }
def fullReply : Reply := { dest := 3, tag := 1, status := .ok, body := [] }
/-- No reply place is EMPTY. -/
def busy : State := { inOpen with responder := { replies := [fullReply, fullReply, fullReply] } }
def noticing : State := { inOpen with config := { target := .node 3 }, events := { notice := .due } }
def waiting : OrigEntry := { ref := 1, tag := 0, dest := 3, kind := .read, body := [0] }
def asking : State := { inOpen with originator := [waiting] }
def selfEntry (kind : ReqKind) (body : List Word) : WorkEntry :=
  { kind, origin := .self, source := .self, tag := 1, place := false, body }
def holding : State := { member with responder := { holder := true, alloc := #v[48, 0, 0, 0, 0] } }
def oneRecord : DropRec := { ctx := 0, tag := 9, cells := 1, firstRound := 0, tapped := false, resync := false, payload := [1] }
/-- 4 × (4 + 1012) = 4064 bytes of the insert pool are in use. -/
def fullPool : State :=
  withCtx { insertCtx with queue := List.replicate 4 { payload := List.replicate 1010 0 } }
/-- A node released from RESET#, its link DOWN. -/
def released : State := { resetAsserted := false, outPort := .training }
def isolated : State := upWith { tracking := .isolated, rank := 2, serial := 7 }
def unnumbered : State := upWith { tracking := .unnumbered, rank := 2, serial := 7 }
/-- A member with one slot of its round still to come, and a master whose round is coming back. -/
def inSlots : State := { member with rx := { phase := .slots, slots := 47, slotCount := 48 } }
def discarding : State := { member with rx := { phase := .discarding } }
def filling : State := { master with rx := { phase := .slots, slots := 47, slotCount := 48 }, carry := { state := .filling } }
def fillingOpen : State := { filling with rx := { phase := .openRegion, words := 179 } }
def absorbing : State := { master with rx := { phase := .absorbing } }
/-- A state in which the words `buf` have been collected behind a marker, or of a cell or message. -/
def collected (c : Collect) (buf : List RxWord) (s : State) : State := { s with rx := { s.rx with collect := c, buf := buf } }
def words (n : Nat) : List RxWord := List.replicate n (word 0)
/-- A cell with a boundary code and a fill, of tag 9 and sequence number 0. -/
def rawCell (boundary fill : Nat) : RxCell :=
  { header := word (field 31 25 9 ||| field 21 20 boundary ||| field 19 15 fill), payload := Vector.replicate 6 (word 0) }
/-- A message of kind `k` from node 3 for the destination `d`, with claimed as given and a body of so many words of 0. -/
def sent (k d : Nat) (claimed : Bool) (n : Nat) : RxMessage :=
  let m := buildMessage k d 3 1 2 false 0 (List.replicate n 0)
  if claimed then forwardedMessage { m with head0 := word (m.head0.value + 1) } true else m

/-- A data symbol at an UP link hands its word on. -/
theorem handsWord_data (v : Word) (s : State) (h : s.resetAsserted = false ∧ s.inPort = { link := .up })
    (ht : s.tracker.tracking ≠ .isolated ∧ s.tracker.tracking ≠ .unnumbered) : s.HandsWord (.data v) { value := v } s := by
  refine ⟨h.1, by rw [h.2], s.line, ?_, .inl ⟨v, rfl, rfl, ?_⟩⟩
  · rw [if_neg]; rintro (h | h)
    · exact ht.1 h
    · exact ht.2 h
  · obtain ⟨_, h⟩ := h
    cases s
    simp_all

def sendingMaster : State := { master with tx := { active := true, slots := 47 } }
def old : Assembly := { cells := 1, payload := [], rejected := false, tapped := false, firstRound := 0, age := 64 }

theorem witness_StepTakesFront :
    State.reset.pending = [] := rfl

theorem witness_FinishTakesDueSteps :
    ({ State.reset with pending := [.linkUp] } : State).pending = .linkUp :: [] ∧
      workOf .linkUp = some .linkUp ∧
      State.reset.due = [] ∧
      ({ State.reset with plan := { restartDue := true } } : State).nextIsInternal = false ∧
      ({ State.reset with plan := { restartDue := true } } : State).due = [.planRestart] ∧
      Work.ready .linkUp State.reset = false := by decide +kernel

theorem witness_OutPortTrains :
    State.reset.outPort = .down ∧
      member.outPort ≠ .down ∧
      ({ State.reset with outPort := .training } : State).outPort = .training ∧
      member.outPort ≠ .training ∧
      State.reset.resetAsserted = true := by decide

theorem witness_InputLink :
    released.resetAsserted = false ∧ released.inPort.link = .down ∧
      ({ released with inPort := { link := .training, goodIdle := 31 } } : State).resetAsserted = false ∧
      ({ released with inPort := { link := .training, goodIdle := 31 } } : State).inPort.link = .training ∧ 31 < 32 ∧
      Symbol.invalid ≠ .idle ∧
      ({ released with inPort := { link := .training, goodIdle := 32 } } : State).inPort.goodIdle = 32 ∧
      seeking.resetAsserted = false ∧ seeking.inPort.link = .up ∧ seeking.tracker.tracking ≠ .inRound ∧ seeking.due = [] ∧
      member.resetAsserted = false ∧ member.tracker.tracking = .inRound ∧ member.rx.phase = .outside ∧ member.heard.due = [] ∧
      absorbing.resetAsserted = false ∧ absorbing.tracker.tracking = .inRound ∧ absorbing.rx.phase = .absorbing ∧
      inSlots.resetAsserted = false ∧ inSlots.tracker.tracking = .inRound ∧ inSlots.InsideRound := by
  unfold State.InsideRound; decide +kernel

/-- The clauses on words: a word at each place of its structure, in a node of each kind that takes it. -/
theorem witness_InputLink_words :
    (collected .header (words 1) seeking).HandsWord (.data 0) (word 0) (collected .header (words 1) seeking) ∧
      (collected .header (words 1) seeking).rx.buf.length < 2 ∧
      (collected .enumeration (words 2) seeking).HandsWord (.data 0) (word 0) (collected .enumeration (words 2) seeking) ∧
      (collected .enumeration (words 2) seeking).rx.buf.length < 3 ∧
      (collected .header (words 2) member).HandsWord (.data 0) (word 0) (collected .header (words 2) member) ∧
      (collected .header (words 2) member).rx.buf = [word 0, word 0] ∧
      (collected .header (words 2) member).due = [] ∧ (collected .header (words 2) member).heard.due = [] ∧
      (collected .restart (words 2) member).HandsWord (.data 0) (word 0) (collected .restart (words 2) member) ∧
      (collected .enumeration (words 3) member).HandsWord (.data 0) (word 0) (collected .enumeration (words 3) member) ∧
      (collected .enumeration (words 3) member).rx.buf = [word 0, word 0, word 0] ∧
      (collected .trailer [] inOpen).HandsWord (.data 0) (word 0) (collected .trailer [] inOpen) ∧
      (collected .round (words 5) inSlots).HandsWord (.data 0) (word 0) (collected .round (words 5) inSlots) ∧
      (collected .round (words 5) inSlots).rx.buf.length < 6 ∧
      (collected .round (words 6) inSlots).HandsWord (.data 0) (word 0) (collected .round (words 6) inSlots) ∧
      (collected .round (words 6) inSlots).rx.buf = [word 0, word 0, word 0, word 0, word 0, word 0] ∧
      (collected .round (words 2) inOpen).HandsWord (.data 0) (word 0) (collected .round (words 2) inOpen) ∧
      (collected .round (words 1) inOpen).HandsWord (.data 0x00B00000) (word 0x00B00000) (collected .round (words 1) inOpen) ∧
      10 < bits 0x00B00000 23 20 ∧
      seeking.HandsWord (.data 0) (word 0) seeking ∧ discarding.HandsWord (.data 0) (word 0) discarding ∧
      member.HandsWord (.data 0) (word 0) member := by
  refine ⟨handsWord_data _ _ ?_ ?_, by decide, handsWord_data _ _ ?_ ?_, by decide, handsWord_data _ _ ?_ ?_, by decide,
    by decide +kernel, by decide +kernel, handsWord_data _ _ ?_ ?_, handsWord_data _ _ ?_ ?_, by decide, handsWord_data _ _ ?_ ?_,
    handsWord_data _ _ ?_ ?_, by decide, handsWord_data _ _ ?_ ?_, by decide, handsWord_data _ _ ?_ ?_,
    handsWord_data _ _ ?_ ?_, by decide, handsWord_data _ _ ?_ ?_, handsWord_data _ _ ?_ ?_, handsWord_data _ _ ?_ ?_⟩ <;> decide

/-- The clauses on words in a transparent node, and a word of unknown value. -/
theorem witness_InputLink_transparent :
    isolated.IsTransparent ∧ unnumbered.IsTransparent ∧
      (∃ u : State, (collected .header (words 2) isolated).HandsWord (.data 0) (word 0) u) ∧
      (∃ u : State, (collected .trailer [] unnumbered).HandsWord (.data 0) (word 0) u) ∧
      ∃ u : State, seeking.HandsWord .invalid { value := Config.unknownWord seeking.unknowns, bad := true } u := by
  unfold State.IsTransparent
  exact ⟨by decide, by decide, ⟨_, rfl, rfl, _, rfl, .inl ⟨0, rfl, rfl, rfl⟩⟩, ⟨_, rfl, rfl, _, rfl, .inl ⟨0, rfl, rfl, rfl⟩⟩,
    ⟨_, rfl, rfl, _, rfl, .inr ⟨rfl, rfl, rfl⟩⟩⟩

/-- A released node in each state whose timer a tick advances, one short of its limit and at it. -/
theorem witness_TickAdvances :
    ([member, { member with tracker := { member.tracker with missed := 3 } },
        { seeking with tracker := { seeking.tracker with seekTimer := 31 } }, { seeking with tracker := { seeking.tracker with seekTimer := 32 } },
        { enumerating .claiming with tracker := { (enumerating .claiming).tracker with enumTimer := 31 } },
        { isolated with tracker := { isolated.tracker with retryTimer := 4095 } }, unnumbered, released].map fun s =>
          (s.resetAsserted, s.tracker.tracking)) =
      [(false, .inRound), (false, .inRound), (false, .seeking), (false, .seeking), (false, .enumerating), (false, .isolated),
        (false, .unnumbered), (false, .down)] := by decide

theorem witness_LinkLossEntersDown :
    member.inPort.link = .up ∧ member.resetAsserted = false ∧
      ({ member with inPort := { link := .up, errorRun := 16 } } : State).inPort.link = .up ∧
      16 ≤ ({ member with inPort := { link := .up, errorRun := 16 } } : State).inPort.errorRun ∧
      member.tracker.tracking = .inRound ∧
      seeking.inPort.link = .up ∧ seeking.tracker.tracking ≠ .inRound := by decide

theorem witness_RoundLoss :
    ({ member with tracker := { member.tracker with missed := 3 } } : State).tracker.tracking = .inRound ∧
      3 ≤ ({ member with tracker := { member.tracker with missed := 3 } } : State).tracker.missed ∧
      member.tracker.role = .member ∧
      ({ master with tracker := { master.tracker with missed := 3 } } : State).tracker.role = .master := by decide

theorem witness_RestartOriginated :
    ({ seeking with tracker := { seeking.tracker with seekTimer := 32 } } : State).tracker.tracking = .seeking ∧ 32 ≤ 32 ∧
      (upWith { tracking := .isolated, failed := 4, retryTimer := 4096 }).tracker.tracking = .isolated ∧ 4096 ≤ 4096 ∧
      ({ member with responder := { releases := [.restartRing] } } : State).responder.applyDue = 0 ∧
      Release.restartRing ∈ ({ member with responder := { releases := [.restartRing] } } : State).responder.releases ∧
      member.tracker.tracking ≠ .enumerating ∧ member.tracker.tracking ≠ .down ∧
      ({ State.reset with responder := { releases := [.restartRing] } } : State).tracker.tracking = .down ∧
      ({ enumerating .claiming with responder := { releases := [.restartRing] } } : State).tracker.tracking = .enumerating := by decide

theorem witness_EnumerationTimesOut :
    (upWith { tracking := .enumerating, phase := .claiming, enumTimer := 32, failed := 2 }).tracker.tracking = .enumerating ∧
      32 ≤ (upWith { tracking := .enumerating, phase := .claiming, enumTimer := 32, failed := 2 }).tracker.enumTimer ∧
      (upWith { tracking := .enumerating, phase := .claiming, enumTimer := 32, failed := 2 }).tracker.failed + 1 < 4 ∧
      (upWith { tracking := .enumerating, phase := .claiming, enumTimer := 32, failed := 3 }).tracker.failed + 1 = 4 := by decide

theorem witness_GoodRestartMarker :
    restartGood (marker true 9).1 (marker true 9).2.1 (marker true 9).2.2 = true ∧
      restartGood (marker true 7).1 (marker true 7).2.1 (marker true 7).2.2 = true ∧
      seeking.resetAsserted = false ∧ member.resetAsserted = false ∧ (enumerating .numbered).resetAsserted = false ∧
      serialOf (marker true 9).1 (marker true 9).2.1 ≠ seeking.tracker.serial ∧
      serialOf (marker true 7).1 (marker true 7).2.1 = seeking.tracker.serial ∧
      seeking.tracker.tracking = .seeking ∧
      member.tracker.tracking = .inRound ∧ member.rx.phase = .outside ∧
      serialOf (marker true 9).1 (marker true 9).2.1 ≠ member.tracker.serial ∧
      serialOf (marker true 7).1 (marker true 7).2.1 = member.tracker.serial ∧
      (enumerating .numbered).tracker.tracking = .enumerating ∧
      serialOf (marker true 9).1 (marker true 9).2.1 ≠ (enumerating .numbered).tracker.serial ∧
      serialOf (marker true 7).1 (marker true 7).2.1 = (enumerating .numbered).tracker.serial := by decide +kernel

theorem witness_DamagedRestartMarker :
    restartGood (marker false 9).1 (marker false 9).2.1 (marker false 9).2.2 = false ∧
      seeking.tracker.tracking = .seeking ∧
      member.tracker.tracking = .inRound ∧ member.rx.phase = .outside ∧
      seeking.resetAsserted = false ∧ member.resetAsserted = false ∧ (enumerating .claiming).resetAsserted = false ∧
      (enumerating .claiming).tracker.tracking = .enumerating := by decide +kernel

theorem witness_RestartMarkerElsewhere :
    isolated.IsTransparent ∧ unnumbered.IsTransparent ∧
      inSlots.IsMemberInRound ∧ inSlots.InsideRound ∧ inOpen.InsideRound ∧ discarding.InsideRound ∧
      filling.IsMasterInRound ∧ filling.InsideRound ∧
      restartGood (marker true 9).1 (marker true 9).2.1 (marker true 9).2.2 = true ∧
      serialOf (marker true 9).1 (marker true 9).2.1 ≠ inSlots.tracker.serial ∧
      restartGood (marker false 9).1 (marker false 9).2.1 (marker false 9).2.2 = false ∧
      restartGood (marker true 7).1 (marker true 7).2.1 (marker true 7).2.2 = true ∧
      serialOf (marker true 7).1 (marker true 7).2.1 = inSlots.tracker.serial ∧
      absorbing.IsMasterInRound ∧ absorbing.rx.phase = .absorbing := by
  unfold State.IsMemberInRound State.IsMasterInRound State.IsTransparent State.InsideRound; decide +kernel

/-- A node of rank 0 in an election. -/
def rankZero : State := upWith { tracking := .enumerating, phase := .claiming, rank := 0, serial := 7 }

theorem witness_ClaimFrameInElection :
    (enumerating .claiming).resetAsserted = false ∧ (enumerating .claiming).tracker.tracking = .enumerating ∧
      (enumerating .claiming).tracker.rank ≠ 0 ∧ (enumerating .claiming).tracker.phase = .claiming ∧
      (enumerating .calling).tracker.phase = .calling ∧
      rankZero.resetAsserted = false ∧ rankZero.tracker.tracking = .enumerating ∧ rankZero.tracker.rank = 0 ∧
      ([frame false 1 1 0 0 9, frame true 1 1 0 0 9, frame true 1 3 0 0 9, frame true 1 2 0 0 9, frame true 1 2 0 0 5, frame true 1 2 0 0 7,
          frame true 1 0 0 0 7].map fun f =>
          (enumGood f.1 f.2.1 f.2.2.1 f.2.2.2, frameKind f.1, frameRank f.1, (serialOf f.2.1 f.2.2.1).toNat)) =
        [(false, 1, 1, 9), (true, 1, 1, 9), (true, 1, 3, 9), (true, 1, 2, 9), (true, 1, 2, 5), (true, 1, 2, 7), (false, 1, 0, 7)] ∧
      (enumerating .claiming).tracker.rank.toNat = 2 ∧ (enumerating .claiming).tracker.serial.toNat = 7 ∧
      rankZero.tracker.serial.toNat = 7 := by decide +kernel

theorem witness_RollCallNumbersNode :
    (enumerating .claiming).resetAsserted = false ∧ (enumerating .calling).resetAsserted = false ∧
      (enumerating .claiming).tracker.tracking = .enumerating ∧ (enumerating .calling).tracker.tracking = .enumerating ∧
      (enumerating .claiming).tracker.phase ≠ .calling ∧ (enumerating .calling).tracker.phase = .calling ∧
      (enumerating .calling).tracker.rank.toNat = 2 ∧ (enumerating .calling).tracker.serial.toNat = 7 ∧
      ([frame true 2 1 4 59 9, frame true 2 1 4 60 9, frame true 2 2 4 59 9, frame true 2 2 4 60 9, frame true 2 2 4 1 5, frame true 2 3 4 1 9,
          frame false 2 1 4 59 9].map fun f =>
          (enumGood f.1 f.2.1 f.2.2.1 f.2.2.2, frameKind f.1, frameNextId f.1, frameRank f.1, (serialOf f.2.1 f.2.2.1).toNat)) =
        [(true, 2, 59, 1, 9), (true, 2, 60, 1, 9), (true, 2, 59, 2, 9), (true, 2, 60, 2, 9), (true, 2, 1, 2, 5), (true, 2, 1, 3, 9),
          (false, 2, 59, 1, 9)] := by
  decide +kernel

theorem witness_ForwardedRollCallFields :
    enumGood (frame true 2 1 4 59 9).1 (frame true 2 1 4 59 9).2.1 (frame true 2 1 4 59 9).2.2.1 (frame true 2 1 4 59 9).2.2.2 = true ∧
      frameKind (frame true 2 1 4 59 9).1 = 2 ∧
      frameNextId (frame true 2 1 4 59 9).1 ≤ 59 ∧
      enumGood (frame true 2 3 4 1 9).1 (frame true 2 3 4 1 9).2.1 (frame true 2 3 4 1 9).2.2.1 (frame true 2 3 4 1 9).2.2.2 = true ∧
      frameKind (frame true 2 3 4 1 9).1 = 2 ∧
      frameNextId (frame true 2 3 4 1 9).1 ≤ 59 := by decide +kernel

theorem witness_RollCallReturns :
    (enumerating .calling).resetAsserted = false ∧
    (enumerating .calling).tracker.tracking = .enumerating ∧
      enumGood (frame true 2 2 0 11 7).1 (frame true 2 2 0 11 7).2.1 (frame true 2 2 0 11 7).2.2.1 (frame true 2 2 0 11 7).2.2.2 = true ∧
      frameKind (frame true 2 2 0 11 7).1 = 2 ∧
      serialOf (frame true 2 2 0 11 7).2.1 (frame true 2 2 0 11 7).2.2.1 = (enumerating .calling).tracker.serial ∧
      (enumerating .calling).tracker.phase = .calling ∧
      frameCall (frame true 2 2 0 11 7).1 = (enumerating .calling).tracker.callNo ∧
      (enumerating .claiming).tracker.tracking = .enumerating ∧
      serialOf (frame true 2 2 0 11 7).2.1 (frame true 2 2 0 11 7).2.2.1 = (enumerating .claiming).tracker.serial ∧
      ¬((enumerating .claiming).tracker.phase = .calling ∧ frameCall (frame true 2 2 0 11 7).1 = (enumerating .claiming).tracker.callNo) := by decide +kernel

theorem witness_EnumerationFrameElsewhere :
    seeking.resetAsserted = false ∧ seeking.tracker.tracking = .seeking ∧
      member.resetAsserted = false ∧ member.tracker.tracking = .inRound ∧ member.rx.phase = .outside ∧
      inSlots.tracker.tracking = .inRound ∧ inSlots.InsideRound ∧
      master.resetAsserted = false ∧ master.tracker.tracking = .inRound ∧ master.rx.phase = .outside ∧
      filling.tracker.tracking = .inRound ∧ filling.InsideRound ∧
      absorbing.tracker.tracking = .inRound ∧ absorbing.rx.phase = .absorbing ∧
      isolated.IsTransparent ∧ isolated.due = [] ∧ unnumbered.IsTransparent ∧ unnumbered.due = [] := by
  unfold State.IsTransparent State.InsideRound; decide +kernel

theorem witness_MemberRoundStart :
    member.resetAsserted = false ∧ member.IsMemberInRound ∧
      member.rx.phase = .outside ∧
      member.heard.due = [] ∧
      (enumerating .numbered).resetAsserted = false ∧
      (enumerating .numbered).tracker.tracking = .enumerating ∧ (enumerating .numbered).tracker.phase = .numbered ∧
      (enumerating .numbered).due = [] ∧ (enumerating .calling).due = [] ∧
      (enumerating .claiming).tracker.phase ≠ .numbered ∧ (enumerating .calling).tracker.phase ≠ .numbered ∧
      headerGood (header 5 {}).1 (header 5 {}).2.1 (header 5 {}).2.2 = true ∧
      headerGood (header 6 {}).1 (header 5 {}).2.1 (header 5 {}).2.2 = false ∧
      seeking.resetAsserted = false ∧ seeking.tracker.tracking = .seeking ∧ seeking.due = [] := by
  unfold State.IsMemberInRound; decide +kernel

theorem witness_MemberSlotEvent :
    inSlots.IsMemberInRound ∧ inSlots.rx.phase = .slots ∧ inSlots.slotAction inSlots.rx.slots = .pass ∧
      ({ inSlots with plan := { roundPlan := some { quiet := false, actions := List.replicate 48 .blank } } } : State).slotAction 47 =
        .blank := by
  unfold State.IsMemberInRound; decide +kernel

/-- A member whose ARMED insert-side context 0 has a record of three cells to send. -/
def sendingMember : State := withCtx { insertCtx with state := .armed, queue := [{ payload := List.replicate 50 0 }] }

/-- An eligible insert-side context with a cell to send sends it over an idle received cell. -/
theorem insertSlot_idle (i : Fin 16) (s : State) (hd : s.contexts[i].config.direction = .insertSide)
    (ha : s.contexts[i].insertEligible = true) (h : s.contexts[i].arrive.hasCell = true) :
    (s.processSlot (.insert i) idleCell).1 = s.contexts[i].arrive.nextCell := by
  have hg : (s.mapCtx i Context.arrive).contexts[i] = s.contexts[i].arrive := by simp [State.mapCtx]
  simp only [State.processSlot, State.insertSlot, hd, ha, State.insertCell, idleCell_not_damaged, cellTag_idleCell, hg, h, if_true,
    if_false, ne_eq, not_true_eq_false, Bool.false_eq_true]

/-- Each of the three cells that a slot may send on, and an action that leaves the contexts alone. -/
theorem witness_SlotSendsOneOfThree :
    (∀ c : RxCell, member.processSlot .pass c = (c, member)) ∧ (member.processSlot .blank (cell 8)).1 = idleCell ∧
      cellTag idleCell = 0 ∧ cellDamaged idleCell = false ∧
      (sendingMember.contexts[(0 : Fin 16)].arrive).hasCell = true ∧
      (sendingMember.processSlot (.insert 0) idleCell).1 = (sendingMember.contexts[(0 : Fin 16)].arrive).nextCell ∧
      (∀ j : Fin 16, PlanEntry.blank ≠ .tap j ∧ PlanEntry.blank ≠ .drop j ∧ PlanEntry.blank ≠ .insert j) ∧
      PlanEntry.insert 0 ≠ .insert 15 := by
  refine ⟨fun _ => rfl, by decide +kernel, cellTag_idleCell, idleCell_not_damaged, by decide,
    insertSlot_idle 0 sendingMember (by decide) (by decide) (by decide), by decide, by decide⟩

theorem witness_DropSlotWithoutDelivery :
    (withCtx insertCtx).contexts[(0 : Fin 16)].config.direction ≠ .dropSide ∧
      (withCtx dropCtx).contexts[(0 : Fin 16)].config.direction = .dropSide ∧
      (withCtx {}).contexts[(0 : Fin 16)].state = .idle ∧
      (withCtx { dropCtx with state := .held }).contexts[(0 : Fin 16)].state = .held ∧
      (withCtx { dropCtx with state := .armed }).contexts[(0 : Fin 16)].state = .armed ∧
      (withCtx dropCtx).contexts[(0 : Fin 16)].state = .running ∧
      cellDamaged badCell = true ∧
      cellDamaged idleCell = false ∧ cellTag idleCell = 0 ∧
      cellDamaged (cell 8) = false ∧ cellTag (cell 8) ≠ 0 ∧ cellTag (cell 8) ≠ (withCtx dropCtx).contexts[(0 : Fin 16)].config.tag.toNat := by
  have hc : cellTag (cell 8) = 8 := (cellTag_buildCell _ _ _ _ _).trans (by decide)
  refine ⟨by decide, by decide, by decide, by decide, by decide, by decide, by decide, idleCell_not_damaged, cellTag_idleCell,
    buildCell_not_damaged _ _ _ _ _, ?_, ?_⟩ <;> rw [hc] <;> decide

theorem witness_DropSlotDelivery :
    (withCtx dropCtx).contexts[(0 : Fin 16)].config.direction = .dropSide ∧
      (withCtx dropCtx).contexts[(0 : Fin 16)].state = .running ∧
      (withCtx { dropCtx with state := .armed }).contexts[(0 : Fin 16)].state = .armed ∧
      cellDamaged (cell 9) = false ∧
      cellTag (cell 9) ≠ 0 ∧
      cellTag (cell 9) = (withCtx dropCtx).contexts[(0 : Fin 16)].config.tag.toNat := by
  have hc : cellTag (cell 9) = 9 := (cellTag_buildCell _ _ _ _ _).trans (by decide)
  refine ⟨by decide, by decide, by decide, buildCell_not_damaged _ _ _ _ _, ?_, ?_⟩ <;> rw [hc] <;> decide

/-- The clauses on what a delivery does: a START, MIDDLE, END and WHOLE, with and without a record in assembly, accepted and
rejected, in and out of sequence, at 15 and at 16 cells. -/
theorem witness_DropSlotDelivery_record :
    ([0, 1, 2, 3].map fun b => bits (rawCell b 24).header.value 21 20) = [0, 1, 2, 3] ∧
      ([0, 1, 24, 25].map fun f => bits (rawCell 3 f).header.value 19 15) = [0, 1, 24, 25] ∧
      (dropCtx.receive (Vector.replicate 8 {}) 0 false (rawCell 0 24)).2.2 = none ∧
      (dropCtx.receive (Vector.replicate 8 {}) 0 false (rawCell 3 24)).2.2.isSome = true ∧
      ({ dropCtx with state := .armed } : Context).state = .armed ∧
      BitVec.ofNat 3 (bits (rawCell 0 24).header.value 24 22) + 1 = 1 ∧ (0#3) + 1 = 1 ∧ (1#3) + 1 ≠ 1 ∧
      dropCtx.assembly = none ∧ ({ dropCtx with assembly := some old } : Context).assembly = some old ∧
      dropCtx.config.accepts (Vector.replicate 8 {}) (rawCell 0 24).payload[0].value = true ∧
      ({ filterA := some 7 } : CtxConfig).accepts (Vector.replicate 8 { pattern := 1, mask := 1 }) (rawCell 0 24).payload[0].value = false ∧
      16 ≤ ({ old with cells := 16 } : Assembly).cells ∧ ({ old with cells := 15 } : Assembly).cells < 16 ∧
      old.rejected = false ∧ ({ old with rejected := true } : Assembly).rejected = true := by decide +kernel

theorem witness_InsertSlot :
    (withCtx dropCtx).contexts[(0 : Fin 16)].config.direction ≠ .insertSide ∧
      (withCtx { config := { direction := .code2 } }).contexts[(0 : Fin 16)].config.direction ≠ .insertSide ∧
      (withCtx { insertCtx with state := .idle }).contexts[(0 : Fin 16)].config.direction = .insertSide ∧
      (withCtx { insertCtx with state := .idle }).contexts[(0 : Fin 16)].state = .idle ∧
      (withCtx { insertCtx with state := .held }).contexts[(0 : Fin 16)].state = .held ∧
      (withCtx insertCtx).contexts[(0 : Fin 16)].config.direction = .insertSide ∧
      (withCtx insertCtx).contexts[(0 : Fin 16)].state = .running ∧
      (withCtx { insertCtx with state := .draining }).contexts[(0 : Fin 16)].state = .draining ∧
      (withCtx { insertCtx with state := .armed }).contexts[(0 : Fin 16)].state = .armed ∧
      ({ insertCtx with queue := [{ payload := List.replicate 50 0 }] } : Context).queue = { payload := List.replicate 50 0 } :: [] ∧
      0 < ((List.replicate 50 (0 : Byte)).length + 23) / 24 ∧
      ¬1 + 1 = ((List.replicate 50 (0 : Byte)).length + 23) / 24 ∧ 2 + 1 = ((List.replicate 50 (0 : Byte)).length + 23) / 24 := by decide

theorem witness_RecordOffered :
    8 + (384 + 3) / 4 * 4 ≤ 8192 - dropOccupancy State.reset.drop ∧ State.reset.drop.records.length < 64 ∧
      ∀ r : DropRec, ¬(8 + (384 + 3) / 4 * 4 ≤ 8192 - dropOccupancy { records := List.replicate 64 r } ∧ (List.replicate 64 r).length < 64) := by
  refine ⟨by decide, by decide, fun r h => ?_⟩
  have := h.2
  simp at this

theorem witness_FilterDecision :
    ({ filterA := some 0, filterB := some 7 } : CtxConfig).filterA = some 0 ∧ ({ filterA := some 0, filterB := some 7 } : CtxConfig).filterB = some 7 ∧
      ({ filterA := some 0 } : CtxConfig).filterA = some 0 ∧ ({ filterA := some 0 } : CtxConfig).filterB = none ∧
      ({ filterB := some 7 } : CtxConfig).filterA = none ∧ ({ filterB := some 7 } : CtxConfig).filterB = some 7 ∧
      ({} : CtxConfig).filterA = none ∧ ({} : CtxConfig).filterB = none := by decide

theorem witness_MessageForwarded :
    inOpen.IsMemberInRound ∧ inOpen.rx.phase = .openRegion ∧
      (buildMessage 0 9 3 1 2 false 0 [0]).body.length = msgBodyLength (buildMessage 0 9 3 1 2 false 0 [0]) ∧ (buildMessage 0 9 3 1 2 false 0 [0]).body.length ≤ 10 ∧
      msgGood (buildMessage 0 9 3 1 2 false 0 [0]) = true ∧ msgMalformed (buildMessage 0 9 3 1 2 false 0 [0]) = false ∧
      inOpen.tracker.nodeId ≠ some (msgSource (buildMessage 0 9 3 1 2 false 0 [0])) ∧ inOpen.tracker.nodeId ≠ some (msgDest (buildMessage 0 9 3 1 2 false 0 [0])) ∧
      inOpen.addressedAsMember (msgDest (buildMessage 0 9 3 1 2 false 0 [0])) = false ∧
      inOpen.rx.words + (3 + (buildMessage 0 9 3 1 2 false 0 [0]).body.length) ≤ inOpen.tracker.params.openCapacity ∧
      1 < msgHops (buildMessage 0 9 3 1 2 false 0 [0]) ∧
      (buildMessage 0 9 3 1 1 false 0 [0]).body.length = msgBodyLength (buildMessage 0 9 3 1 1 false 0 [0]) ∧ (buildMessage 0 9 3 1 1 false 0 [0]).body.length ≤ 10 ∧
      msgGood (buildMessage 0 9 3 1 1 false 0 [0]) = true ∧ msgMalformed (buildMessage 0 9 3 1 1 false 0 [0]) = false ∧
      inOpen.tracker.nodeId ≠ some (msgSource (buildMessage 0 9 3 1 1 false 0 [0])) ∧ inOpen.tracker.nodeId ≠ some (msgDest (buildMessage 0 9 3 1 1 false 0 [0])) ∧
      inOpen.addressedAsMember (msgDest (buildMessage 0 9 3 1 1 false 0 [0])) = false ∧
      inOpen.rx.words + (3 + (buildMessage 0 9 3 1 1 false 0 [0]).body.length) ≤ inOpen.tracker.params.openCapacity ∧
      msgHops (buildMessage 0 9 3 1 1 false 0 [0]) ≤ 1 := by
  unfold State.IsMemberInRound; decide +kernel

theorem witness_ForwardedMessageFields :
    1 ≤ msgHops (buildMessage 0 9 3 1 1 false 0 [0]) ∧
      1 ≤ msgHops (buildMessage 0 9 3 1 127 false 0 []) := by decide +kernel

theorem witness_MessageRemovedOrBounced :
    msgGood { head0 := word 0, head1 := word 0, body := [], check := word 0 } = false ∧
      msgGood (buildMessage 7 9 3 1 2 false 0 []) = true ∧ msgMalformed (buildMessage 7 9 3 1 2 false 0 []) = true ∧
      msgGood (buildMessage 5 3 5 1 4 false 0 []) = true ∧ msgMalformed (buildMessage 5 3 5 1 4 false 0 []) = false ∧
      member.tracker.nodeId = some (msgSource (buildMessage 5 3 5 1 4 false 0 [])) ∧ 5 ≤ msgKind (buildMessage 5 3 5 1 4 false 0 []) ∧
      msgGood (buildMessage 0 5 3 1 2 false 0 [0]) = true ∧ msgMalformed (buildMessage 0 5 3 1 2 false 0 [0]) = false ∧
      busy.tracker.nodeId ≠ some (msgSource (buildMessage 0 5 3 1 2 false 0 [0])) ∧ busy.tracker.nodeId = some (msgDest (buildMessage 0 5 3 1 2 false 0 [0])) ∧
      reqKindOfCode (msgKind (buildMessage 0 5 3 1 2 false 0 [0])) = some .read ∧
      (inOpen.take (requestEntry .read .unicast (buildMessage 0 5 3 1 2 false 0 [0]))).isSome = true ∧
      busy.take (requestEntry .read .unicast (buildMessage 0 5 3 1 2 false 0 [0])) = none := by decide +kernel

/-- The clauses on a request of the node's own that returns: to a node, to a group, claimed, and without its entry. -/
theorem witness_MessageRemovedOrBounced_returned :
    ([59, 64].map fun d => (msgGood (buildMessage 0 d 5 0 2 false 0 [0]), msgMalformed (buildMessage 0 d 5 0 2 false 0 [0]),
        msgDest (buildMessage 0 d 5 0 2 false 0 [0]), msgTag (buildMessage 0 d 5 0 2 false 0 [0]))) =
      [(true, false, 59, 0), (true, false, 64, 0)] ∧
      asking.tracker.nodeId = some (msgSource (buildMessage 0 59 5 0 2 false 0 [0])) ∧
      reqKindOfCode (msgKind (buildMessage 0 59 5 0 2 false 0 [0])) = some .read ∧
      reqKindOfCode (msgKind (buildMessage 1 64 5 0 2 false 0 [0, 0])) = some .writePosted ∧
      (([{ waiting with dest := 59, sent := true }] : List OrigEntry).map OrigEntry.tag).Nodup ∧
      ({ waiting with dest := 59, sent := true } : OrigEntry).tag = msgTag (buildMessage 0 59 5 0 2 false 0 [0]) ∧
      ({ waiting with dest := 59, sent := true } : OrigEntry).dest = msgDest (buildMessage 0 59 5 0 2 false 0 [0]) ∧
      ¬∃ e ∈ asking.originator, e.sent = true := by decide +kernel

/-- The clauses on a REPLY and a NOTICE delivered here. -/
theorem witness_MessageRemovedOrBounced_reply :
    msgGood (sent 5 5 false 8) = true ∧ msgMalformed (sent 5 5 false 8) = false ∧ msgKind (sent 5 5 false 8) = 5 ∧
      inOpen.tracker.nodeId ≠ some (msgSource (sent 5 5 false 8)) ∧ inOpen.tracker.nodeId = some (msgDest (sent 5 5 false 8)) ∧
      ({ waiting with tag := 1, sent := true } : OrigEntry).tag = msgTag (sent 5 5 false 8) ∧
      ({ waiting with tag := 1, sent := true } : OrigEntry).dest = msgSource (sent 5 5 false 8) ∧
      59 < ({ waiting with tag := 1, dest := 64, sent := true } : OrigEntry).dest ∧
      (¬∃ e ∈ asking.originator, e.sent = true) ∧
      msgGood (sent 6 5 false 2) = true ∧ msgMalformed (sent 6 5 false 2) = false ∧ msgKind (sent 6 5 false 2) = 6 ∧
      (sent 6 5 false 2).body = [word 0, word 0] := by decide +kernel

/-- A node that holds the allocation words and is a member of groups 0 and 15; its work queue empty and full. -/
def grouped : State := { inOpen with config := { groups := 0x8001 }, responder := { holder := true } }
def groupedFull : State :=
  { grouped with responder := { work := List.replicate 4 { entry .writePosted [0, 0] with place := false } } }

/-- The clauses on group and broadcast requests. -/
theorem witness_MessageRemovedOrBounced_group :
    ([sent 0 64 false 1, sent 0 79 true 1, sent 3 127 false 3, sent 1 64 false 2, sent 4 127 false 1].map fun m =>
        (msgGood m, msgMalformed m, msgSource m, msgDest m, msgClaimed m)) =
      [(true, false, 3, 64, false), (true, false, 3, 79, true), (true, false, 3, 127, false), (true, false, 3, 64, false),
        (true, false, 3, 127, false)] ∧
      ([sent 0 64 false 1, sent 3 127 false 3, sent 1 64 false 2, sent 4 127 false 1].map fun m => reqKindOfCode (msgKind m)) =
        [some .read, some .swap, some .writePosted, some .command] ∧
      grouped.tracker.nodeId = some 5 ∧ grouped.config.groups.getLsbD (64 - 64) = true ∧ grouped.config.groups.getLsbD (79 - 64) = true ∧
      grouped.responder.answering = [] ∧ grouped.responder.holder = true ∧ inOpen.responder.holder = false ∧
      (grouped.take (requestEntry .read .unicast (sent 0 64 false 1))).isSome = true ∧
      busy.take (requestEntry .read .unicast (sent 0 127 false 1)) = none ∧
      grouped.classify (requestEntry .command .group (buildMessage 4 127 3 1 2 false 0 (command 1 0 16))) = .answer ∧
      grouped.classify (requestEntry .command .group (sent 4 127 false 1)) = .refuse .badRequest ∧
      grouped.classify (requestEntry .writePosted .group (sent 1 64 false 2)) = .enqueue ∧
      grouped.responder.work.length < 4 ∧
      groupedFull.classify (requestEntry .writePosted .group (sent 1 64 false 2)) = .enqueue ∧ 4 ≤ groupedFull.responder.work.length := by
  decide +kernel

theorem witness_TrailerWithoutInsertion :
    inOpen.IsMemberInRound ∧ inOpen.rx.phase = .openRegion ∧ inOpen.nextOffer = none ∧ inOpen.InsideRound ∧
      discarding.IsMemberInRound ∧ discarding.rx.phase = .discarding ∧ discarding.nextOffer = none ∧ discarding.InsideRound ∧
      inSlots.IsMemberInRound ∧ inSlots.rx.phase = .slots ∧ inSlots.nextOffer = none ∧ inSlots.due = [] ∧ inSlots.heard.due = [] ∧
      (∀ k : Nat, inSlots.rx.slots ≤ k → k < inSlots.rx.slotCount → inSlots.slotAction k = .pass) ∧
      inSlots.InsideRound ∧ inSlots.inPort.link = .up ∧ inSlots.tracker.tracking = .inRound ∧ inSlots.rx.slots < inSlots.rx.slotCount ∧
      inSlots.nextIsInternal = false ∧
      10 < msgBodyLength { head0 := word 0, head1 := word (field 23 20 11), body := [], check := word 0 } ∧
      (sent 0 9 false 1).body.length = msgBodyLength (sent 0 9 false 1) ∧
      inOpen.tracker.params.openCapacity < 189 + (3 + (sent 0 9 false 1).body.length) ∧
      member.IsMemberInRound ∧ member.rx.phase = .outside := by
  unfold State.IsMemberInRound State.InsideRound
  refine ⟨by decide, by decide, by decide, by decide, by decide, by decide, by decide, by decide, by decide, by decide, by decide,
    by decide +kernel, by decide +kernel, fun k h1 h2 => ?_, by decide +kernel⟩
  change 47 ≤ k at h1
  change k < 48 at h2
  obtain rfl : k = 47 := by omega
  decide

/-- A member with a reply to insert and the last slot of its round, under the action `a`, still to come; the same with a
RESTART_RING that is due. -/
def missingSlot (a : PlanEntry) : State :=
  { busy with rx := inSlots.rx, plan := { roundPlan := some { quiet := false, actions := List.replicate 48 a } } }
def restarting : State := { inSlots with responder := { releases := [.restartRing] } }

/-- The clauses on a node with something to insert and on slots under every action: the missing slot is filled and the node
is still IN_ROUND, or it has left it (a RESTART_RING that is due then). -/
theorem witness_TrailerWithoutInsertion_inserting :
    busy.IsMemberInRound ∧ busy.rx.phase = .openRegion ∧ busy.nextOffer = some (.reply fullReply) ∧ busy.InsideRound ∧
      (missingSlot .blank).IsMemberInRound ∧ (missingSlot .blank).rx.phase = .slots ∧ (missingSlot .blank).InsideRound ∧
      (missingSlot .blank).nextOffer = some (.reply fullReply) ∧
      ([PlanEntry.pass, .tap 0, .drop 0, .insert 0, .blank].map fun a => (missingSlot a).slotAction 47) =
        [.pass, .tap 0, .drop 0, .insert 0, .blank] ∧
      ([PlanEntry.tap 0, .insert 0, .blank].map fun a =>
        (((missingSlot a).framingFault.memberMissing 1).tracker.tracking,
          ((missingSlot a).framingFault.memberMissing 1).sendTrailer.tracker.tracking)) =
        [(.inRound, .inRound), (.inRound, .inRound), (.inRound, .inRound)] ∧
      restarting.IsMemberInRound ∧ restarting.InsideRound ∧ restarting.rx.phase = .slots ∧
      (restarting.framingFault.memberMissing 1).tracker.tracking = .enumerating := by
  unfold State.IsMemberInRound State.InsideRound; decide +kernel

theorem witness_ArbiterOffers :
    busy.tracker.tracking = .inRound ∧ busy.nextOffer = some (.reply fullReply) ∧
      busy.responder.replies = fullReply :: [fullReply, fullReply] ∧
      noticing.responder.replies = [] ∧ noticing.config.target = .node 3 ∧ noticing.events.notice = .due ∧ noticing.tracker.nodeId ≠ some 3 ∧
      asking.responder.replies = [] ∧ asking.noticeDest = none ∧ asking.originator.find? (fun x => !x.sent) = some waiting ∧
      fullReply.mark = none ∧
      ({ fullReply with mark := some .nodeReset } : Reply).mark = some .nodeReset ∧
      ({ fullReply with mark := some .restartRing } : Reply).mark = some .restartRing ∧
      inOpen.nextOffer = none ∧ seeking.tracker.tracking ≠ .inRound := by
  refine ⟨by decide, by decide, by decide, by decide, by decide, by decide, by decide, by decide, by decide, by decide, by decide,
    by decide, by decide, by decide, by decide⟩

theorem witness_RoundEmission :
    master.IsMasterInRound ∧ master.tx.active = false ∧
      master.due = [] ∧
      ¬(master.carry.state = .complete ∧ master.carry.round = master.tracker.round) ∧
      ({ master with carry := { state := .complete } } : State).carry.state = .complete ∧
      ({ master with carry := { state := .complete } } : State).carry.round = ({ master with carry := { state := .complete } } : State).tracker.round ∧
      ({ master with carry := { state := .complete } } : State).due = [] ∧
      ({ master with carry := { state := .filling }, rx := { phase := .slots } } : State).rx.phase ≠ .outside ∧
      master.carry.state ≠ .filling ∧ master.choice % 2 = 0 ∧ ({ master with choice := 1 } : State).choice % 2 ≠ 0 := by
  unfold State.IsMasterInRound; decide +kernel

theorem witness_ReturningHeader :
    master.IsMasterInRound ∧
      master.rx.phase = .outside ∧
      ({ master.heard with rx := {} } : State).due = [] := by
  unfold State.IsMasterInRound; decide +kernel

theorem witness_ReturningRoundStored :
    filling.IsMasterInRound ∧ filling.rx.phase = .slots ∧ filling.inPort.link = .up ∧
      filling.rx.slots < filling.rx.slotCount ∧ fillingOpen.IsMasterInRound ∧ fillingOpen.rx.phase = .openRegion ∧
      (sent 0 9 false 10).body.length = msgBodyLength (sent 0 9 false 10) ∧ (sent 0 9 false 10).body.length ≤ 10 ∧
      fillingOpen.rx.words + (3 + (sent 0 9 false 10).body.length) ≤ fillingOpen.tracker.params.openCapacity ∧
      fillingOpen.tracker.params.openCapacity < 180 + (3 + (sent 0 9 false 10).body.length) ∧
      10 < msgBodyLength { head0 := word 0, head1 := word (field 23 20 11), body := [], check := word 0 } ∧
      ({ filling with rx := { phase := .discarding } } : State).rx.phase = .discarding ∧
      absorbing.IsMasterInRound ∧ absorbing.rx.phase = .absorbing ∧
      master.IsMasterInRound ∧ master.rx.phase = .outside := by
  unfold State.IsMasterInRound; decide +kernel

theorem witness_MasterCarriesRound :
    sendingMaster.IsMasterInRound ∧ sendingMaster.tx.active = true ∧
      sendingMaster.tx.slots < sendingMaster.tracker.params.slotCount ∧
      sendingMaster.tx.carryCells[sendingMaster.tx.slots]? = none ∧
      ({ sendingMaster with tx := { sendingMaster.tx with carryCells := List.replicate 48 badCell } } : State).tx.carryCells[47]? = some badCell ∧
      ({ sendingMaster with tx := { active := true, slots := 48 } } : State).tracker.params.slotCount ≤ 48 ∧
      ({ sendingMaster with tx := { active := true, slots := 48 } } : State).tx.carryMessages = [] ∧
      ({ sendingMaster with tx := { active := true, slots := 48 } } : State).nextOffer = none ∧
      ({ sendingMaster with tx := { active := true, slots := 48 }, originator := [waiting] } : State).nextOffer.isSome = true ∧
      ({ sendingMaster with tx := { active := true, slots := 48, carryMessages := [buildMessage 0 9 3 1 2 false 0 [0]] } } : State).tx.carryMessages = [buildMessage 0 9 3 1 2 false 0 [0]] := by
  unfold State.IsMasterInRound; decide +kernel

theorem witness_RoundPlanBuilt :
    (300#16).toNat % examplePlan.rotation.length < 12 ∧
      47 < 48 ∧ 48 ≤ 48 ∧
      examplePlan.rotation.steps[(300#16).toNat % 3] = .a ∧
      examplePlan.rotation.steps[(301#16).toNat % 3] = .b ∧
      examplePlan.rotation.steps[(302#16).toNat % 3] = .quiet := by decide

/-- A member with five edits whose commit is due. -/
def committing (c : PendingCommit) : State :=
  { member with plan :=
      { commitDue := true, commit := c
        edits := [.slot .a 0 .blank, .slot .b 47 (.tap 15), .bankDefault .a .pass, .bankDefault .b .blank, .rotation { length := 12 }] } }

/-- A commit that is due, of each kind: at the next start, at its target, and past its target with an edit of each kind. -/
theorem witness_CommitApplied :
    ([PendingCommit.nextStart 3, .atTarget 0, .atTarget 9].map fun c =>
        ((committing c).tracker.tracking, (committing c).plan.commitDue, (committing c).plan.commit, (committing c).tracker.round)) =
      [(.inRound, true, .nextStart 3, 0), (.inRound, true, .atTarget 0, 0), (.inRound, true, .atTarget 9, 0)] ∧
      (∀ c : PendingCommit, (committing c).plan.edits =
        [.slot .a 0 .blank, .slot .b 47 (.tap 15), .bankDefault .a .pass, .bankDefault .b .blank, .rotation { length := 12 }]) :=
  ⟨by decide, fun _ => rfl⟩

theorem witness_EditRequestTaken :
    ({ commit := .atTarget 1 } : PlanStore).commit ≠ .none ∧ ({} : PlanStore).commit = .none ∧
      (∃ x ∈ ({ edits := [.slot .a 0 .blank] } : PlanStore).edits, x.target = (Edit.slot .a 0 .pass).target) ∧
      (¬∃ x ∈ ({ edits := List.replicate 15 (.slot .a 0 .blank) } : PlanStore).edits, x.target = (Edit.slot .b 0 .pass).target) ∧
      ({ edits := List.replicate 15 (.slot .a 0 .blank) } : PlanStore).edits.length < 16 ∧
      (¬∃ x ∈ ({ edits := List.replicate 16 (.slot .a 0 .blank) } : PlanStore).edits, x.target = (Edit.slot .b 0 .pass).target) ∧
      16 ≤ ({ edits := List.replicate 16 (.slot .a 0 .blank) } : PlanStore).edits.length ∧
      ((List.map Edit.target [.slot .a 0 .blank, .slot .b 0 .blank]).Nodup) := by decide

theorem witness_ContextStepsDue :
    (withCtx { insertCtx with state := .draining }).contexts[(0 : Fin 16)].state = .draining ∧ insertCtx.inFlight = false ∧
      (withCtx { dropCtx with assembly := some old }).contexts[(0 : Fin 16)].assembly = some old ∧ 64 ≤ old.age ∧
      (withCtx dropCtx).contexts[(0 : Fin 16)].config.direction = .dropSide ∧
      member.tracker.tracking = .inRound ∧
      (∃ c ∈ (withCtx { dropCtx with state := .held, resume := .running }).contexts.toList, c.state = .held ∧ c.resume ≠ .none) ∧
      member.events.upDue = false ∧ ({ member with events := { upDue := true } } : State).events.upDue = true := by
  decide

/-- One entry for each clause: a unicast and a SELF outcome, a posted and a group report, a confirmed one with and without a
reply place, and a failure with the capture free and taken. -/
theorem witness_OutcomeReported :
    (entry .read [0]).origin = .unicast ∧ (entry .read [0]).source = .node 3 ∧
      (selfEntry .read [0]).origin = .self ∧
      (entry .writePosted [0, 0]).kind = .writePosted ∧
      ({ entry .command [0] with origin := .group, place := false } : WorkEntry).origin = .group ∧
      (isRefusal .badRequest = true ∧ isRefusal .ok = false) ∧
      (entry .command [0]).kind ≠ .writePosted ∧ (entry .command [0]).origin = .unicast ∧ (entry .command [0]).place = true ∧
      ({ entry .command [0] with place := false } : WorkEntry).place = false ∧
      (selfEntry .command [0]).kind ≠ .writePosted ∧ (selfEntry .command [0]).origin = .self ∧
      (entry .command [0]).kind = .command ∧ (entry .command [0]).body = 0 :: [] ∧
      (entry .writePosted [0, 0]).kind ≠ .command ∧ (entry .writePosted [0, 0]).body = 0 :: [0] ∧
      member.responder.capture = none ∧
      ({ member with responder := { capture := some { isCommand := false, code := 0, index := 0, source := .self, tag := 0, reason := .busyRetry } } } :
        State).responder.capture ≠ none := by decide

theorem witness_ReadAndSwapAnswered :
    (withAnswer (entry .read [0]) {}).AnswerDue (entry .read [0]) [] ∧
      (entry .read [0]).origin ≠ .group ∧ (entry .read [0]).place = true ∧ (entry .read [0]).kind = .read ∧
      spaceSize (reqSpace [field 31 24 12 ||| field 23 16 0 ||| field 3 0 1]) = none ∧
      spaceSize (reqSpace [field 31 24 8 ||| field 23 16 201 ||| field 3 0 10]) = some 211 ∧ reqCount [field 31 24 8 ||| field 23 16 201 ||| field 3 0 10] = 10 ∧ reqIndex [field 31 24 8 ||| field 23 16 201 ||| field 3 0 10] + 10 ≤ 211 ∧
      reqIndex [field 31 24 8 ||| field 23 16 202 ||| field 3 0 10] + reqCount [field 31 24 8 ||| field 23 16 202 ||| field 3 0 10] = 212 ∧
      reqCount [field 31 24 0 ||| field 23 16 0 ||| field 3 0 0] = 0 ∧ 10 < reqCount [field 31 24 0 ||| field 23 16 0 ||| field 3 0 11] ∧
      bits (bodyWord [5, 0, 0] 0) 2 0 = 5 ∧
      bits (bodyWord [4, 0, 0x01000000] 0) 2 0 = (4 : Fin 5).val ∧
      (withAnswer (entry .swap [0, 48, 47]) {}).AnswerDue (entry .swap [0, 48, 47]) [] ∧
      (withAnswer (entry .swap [0, 48, 47]) {}).responder.holder = false ∧
      holding.responder.holder = true ∧ holding.responder.alloc[(0 : Fin 5)] = 48 ∧
      (48#32).toNat ≤ holding.tracker.params.slotCount ∧ ¬(49#32).toNat ≤ holding.tracker.params.slotCount ∧
      (0x01FFFFFE#32).getLsbD 0 = false ∧
      ([.slot .a 0 .blank] : List Edit)[0]? = some (.slot .a 0 .blank) ∧ ([.slot .a 0 .blank] : List Edit)[15]? = none ∧
      (withCtx insertCtx).contexts[(0 : Fin 16)].config.direction = .insertSide ∧ member.responder.capture = none ∧
      (withAnswer (entry .read [0]) {}).responder.answering.length = 1 := by
  unfold State.AnswerDue; decide +kernel

theorem witness_ClaimCommandsAnswered :
    ({ entry .command (command 2 0 16) with origin := .group, place := false } : WorkEntry).origin = .group ∧
      (withAnswer (entry .command (command 1 0 15)) {}).responder.answering.length = 1 ∧
      (entry .command (command 1 0 15)).place = true ∧
    (withAnswer (entry .command (command 1 0 15)) {}).AnswerDue (entry .command (command 1 0 15)) [] ∧
      (entry .command (command 1 0 15)).IsCommand 1 ∧ (entry .command (command 1 0 15)).source = .node 3 ∧
      (entry .command (command 2 0 16)).IsCommand 2 ∧
      (entry .command (command 3 0 0)).IsCommand 3 ∧
      ({} : ClaimRecord).holder = none ∧ ({ holder := some 3, lease := 9 } : ClaimRecord).holder = some 3 ∧
      (∃ h : Nat, ({ holder := some 4, lease := 9 } : ClaimRecord).holder = some h ∧ h ≠ 3) ∧
      (selfEntry .command (command 1 0 15)).source = .self := by
  unfold State.AnswerDue WorkEntry.IsCommand
  refine ⟨by decide, by decide, by decide, by decide, by decide, by decide, by decide, by decide, by decide, by decide, ⟨4, by decide⟩,
    by decide⟩

theorem witness_CommitCommandsApplied :
    (withHead (entry .command (command 4 0 32767))).HeadDue (entry .command (command 4 0 32767)) [] ∧
      (entry .command (command 4 0 32767)).IsCommand 4 ∧
      State.reset.tracker.tracking ≠ .inRound ∧
      (withHead (entry .command (command 4 0 32767))).tracker.tracking = .inRound ∧
      ({ member with plan := { commit := .atTarget 3 } } : State).plan.commit ≠ .none ∧
      1 ≤ (BitVec.ofNat 16 (reqOperand (command 4 0 32767)) - 0).toNat ∧
      (BitVec.ofNat 16 (reqOperand (command 4 0 32767)) - 0).toNat ≤ 32767 ∧
      ¬(BitVec.ofNat 16 (reqOperand (command 4 0 32768)) - 0).toNat ≤ 32767 ∧
      ({} : PlanStore).commit = .none ∧ ({ commit := .nextStart 9 } : PlanStore).commit = .nextStart 9 ∧
      (entry .command (command 5 0 0)).IsCommand 5 := by
  unfold State.HeadDue WorkEntry.IsCommand; decide +kernel

theorem witness_StartContextApplied :
    (withHead (entry .command (command 6 0 15))).HeadDue (entry .command (command 6 0 15)) [] ∧
      (entry .command (command 6 0 15)).IsCommand 6 ∧
      reqOperand (command 6 0 15) = (15 : Fin 16).val ∧
      15 < reqOperand (command 6 0 16) ∧
      dropCtx.state ≠ .idle ∧
      ({} : Context).state = .idle ∧ ({} : Context).config.tag.toNat = 0 ∧
      1 ≤ (120#7).toNat ∧ (120#7).toNat ≤ 120 ∧ 120 < (121#7).toNat ∧
      dropCtx.config.direction = .dropSide ∧ insertCtx.config.direction = .insertSide := by
  unfold State.HeadDue WorkEntry.IsCommand; decide +kernel

theorem witness_StopAndHaltApplied :
    (withHead (entry .command (command 7 0 0))).HeadDue (entry .command (command 7 0 0)) [] ∧
      (entry .command (command 7 0 0)).IsCommand 7 ∧ (entry .command (command 8 0 0)).IsCommand 8 ∧
      reqOperand (command 7 0 0) = (0 : Fin 16).val ∧
      15 < reqOperand (command 7 0 16) ∧ 15 < reqOperand (command 8 0 16) ∧
      dropCtx.config.direction ≠ .insertSide ∧
      insertCtx.config.direction = .insertSide ∧ insertCtx.inFlight = false ∧
      ({ insertCtx with inFlight := true } : Context).inFlight = true ∧
      insertCtx.state = .running ∧
      ({ insertCtx with state := .draining, inFlight := true } : Context).state = .draining ∧
      ({ insertCtx with state := .held, inFlight := true } : Context).state = .held := by
  unfold State.HeadDue WorkEntry.IsCommand; decide +kernel

theorem witness_ClearAndHolderCommandsApplied :
    (withHead (entry .command (command 9 0 0))).HeadDue (entry .command (command 9 0 0)) [] ∧
      (entry .command (command 9 0 0)).IsCommand 9 ∧ (entry .command (command 10 0 256)).IsCommand 10 ∧
      (entry .command (command 11 0 0)).IsClear 0 ∧ (entry .command (command 11 1 15)).IsClear 1 ∧
      (entry .command (command 11 2 0)).IsClear 2 ∧ (entry .command (command 11 3 0)).IsClear 3 ∧
      reqOperand (command 11 1 15) = (15 : Fin 16).val ∧ 15 < reqOperand (command 11 1 16) ∧
      (entry .command (command 12 0 0)).IsCommand 12 ∧ (entry .command (command 13 0 0)).IsCommand 13 := by
  unfold State.HeadDue WorkEntry.IsClear WorkEntry.IsCommand; decide +kernel

theorem witness_ReleasedCommandsApplied :
    (withHead (entry .command (command 14 0 0))).HeadDue (entry .command (command 14 0 0)) [] ∧
      (entry .command (command 14 0 0)).kind = .command ∧ reqCommand (command 14 0 0) = 14 ∧ reqCommand (command 15 0 0) = 15 ∧
      (entry .command (command 14 0 0)).origin = .unicast ∧ (entry .command (command 14 0 0)).place = true ∧
      (entry .command (command 14 0 0)).source = .node 3 ∧
      (selfEntry .command (command 15 0 0)).origin = .self ∧
      ({ entry .command (command 15 0 0) with origin := .group } : WorkEntry).origin = .group ∧ member.tracker.tracking = .inRound := by
  unfold State.HeadDue; decide +kernel

theorem witness_SoftResetValues :
    ({ member with responder := { releases := [.nodeReset] } } : State).responder.applyDue = 0 ∧
      Release.nodeReset ∈ ({ member with responder := { releases := [.nodeReset] } } : State).responder.releases ∧
      ¬Release.restartRing ∈ ({ member with responder := { releases := [.nodeReset] } } : State).responder.releases ∧
      member.plan.restartDue = false := by decide

theorem witness_WritesApplied :
    (withHead (entry .writeConfirmed [field 31 24 1, 127])).HeadDue (entry .writeConfirmed [field 31 24 1, 127]) [] ∧
      (entry .writeConfirmed [field 31 24 1, 127]).kind ≠ .command ∧
      writeRow [field 31 24 1, 127] = .writeNoticeTarget ∧
      writeRow [field 31 24 1 ||| field 23 16 1, 0] = .writeEnableSet ∧
      writeRow [field 31 24 1 ||| field 23 16 2, 0] = .writeGroupMembership ∧
      writeRow [field 31 24 1 ||| field 23 16 3, 0] = .writeDropThreshold ∧
      writeRow [field 31 24 1 ||| field 23 16 4, 0] = .writeRegister ∧
      writeRow [field 31 24 2, 0] = .writePlanEdit ∧
      writeRow [field 31 24 6, 0] = .writeContextConfig ∧
      writeRow [field 31 24 7, 0] = .writeFilters ∧
      writeCheck [field 31 24 1, 127] = none ∧ writeCheck [field 31 24 0, 0] = some .readOnly ∧
      (member.writeWords 1 0 [127]).1 = .ok ∧ (member.writeWords 1 0 [60]).1 ≠ .ok ∧
      (member.writeWord 1 0 127).1 = .ok ∧ (member.writeWord 1 0 60).1 ≠ .ok ∧
      11 < reqSpace [field 31 24 12, 0] ∧
      spaceSize (reqSpace [field 31 24 7 ||| field 23 16 15, 0]) = some 16 ∧ reqIndex [field 31 24 7 ||| field 23 16 15, 0] + 1 ≤ 16 ∧
      16 < reqIndex [field 31 24 7 ||| field 23 16 15, 0, 0] + 2 ∧
      indexWritable 7 15 = true ∧ indexWritable 6 1 = false ∧
      writeCheck [field 31 24 12, 0] = some .noSuchSpace ∧ writeCheck [field 31 24 1] = some .badRequest ∧
      writeCheck [field 31 24 7 ||| field 23 16 15, 0, 0] = some .outOfRange ∧
      writeCheck [field 31 24 7 ||| field 23 16 15, 0] = none ∧
      writeCheck [field 31 24 6 ||| field 23 16 45, 0] = none ∧ writeCheck [field 31 24 6 ||| field 23 16 45, 0, 0] = some .readOnly := by
  unfold State.HeadDue; decide +kernel

/-- R138: the spaces and indices that a write may change, space by space: the indices 0, 1, 2 and 3 of each. -/
theorem test_index_writable :
    ((List.range 12).map fun sp => (List.range 4).map (indexWritable sp)) =
      [[false, false, false, false], [true, true, true, true], [true, true, true, true], [true, true, true, true], [true, true, true, true],
        [false, false, false, false], [true, false, false, true], [true, true, true, true], [false, false, false, false],
        [false, false, false, false], [false, false, false, false], [false, false, false, false]] := by decide

theorem witness_WrittenWordTaken :
    (59#32).toNat = 59 ∧ (126#32).toNat = 126 ∧ (127#32).toNat = 127 ∧ 59 < (60#32).toNat ∧
      (1000#32).toNat = periodMicros .us1000 ∧
      (∀ p : Period, (126#32).toNat ≠ periodMicros p) ∧
      ctxConfigOf 0 = some { filterA := some 0, filterB := some 0 } ∧
      ctxConfigOf (field 22 19 8) = none ∧
      (withCtx {}).contexts[(0 : Fin 16)].state = .idle ∧ (withCtx dropCtx).contexts[(0 : Fin 16)].state ≠ .idle ∧
      planEntryOf 0 = some .pass ∧ planEntryOf (field 31 29 5) = some .follow ∧ planEntryOf (field 31 29 6) = none ∧
      rotationOf (field 31 28 12) = some { length := 12, steps := Vector.replicate 12 .a } ∧
      rotationOf (field 31 28 13) = none ∧ rotationOf 0 = none ∧ rotationOf (field 31 28 1 ||| field 23 22 3) = none ∧
      6 ≤ bits (field 31 29 6) 31 29 ∧
      ([0, 1, 2, 3, 4, 5].map fun c => planEntryOf (field 31 29 c ||| field 28 25 15)) =
        [some .pass, some (.tap 15), some (.drop 15), some (.insert 15), some .blank, some .follow] ∧
      bits (field 31 29 1 ||| field 28 25 15) 28 25 = (15 : Fin 16).val ∧
      (rotationOf (field 31 28 3 ||| field 3 2 1 ||| field 5 4 2)).map (fun r => (r.length, r.steps[0], r.steps[1], r.steps[2])) =
        some (3, .a, .b, .quiet) ∧
      ctxConfigOf (field 18 15 14) = none ∧ ctxConfigOf (field 14 12 4) = none ∧
      ctxConfigOf (field 31 30 1 ||| field 29 23 120 ||| field 22 19 7 ||| field 18 15 15 ||| field 14 12 3) =
        some { direction := .insertSide, tag := 120, filterA := some 7, filterB := none, combine := .notAll } := by
  refine ⟨by decide, by decide, by decide, by decide, by decide, fun p => by cases p <;> decide, by decide +kernel⟩

theorem witness_EventRaised :
    ({ member with events := { pending := 1 } } : State).events.pending.getLsbD Event.ringRestarted.bit = true ∧
      member.events.pending.getLsbD Event.insertDrained.bit = false := by decide

theorem witness_RoundStartStepsDue :
    ({ member with responder := { claim := { holder := some 3, lease := 0 } } } : State).responder.claim.holder ≠ none ∧
      ({ member with responder := { claim := { holder := some 3, lease := 0 } } } : State).responder.claim.lease = 0 ∧
      (asking.originator.map OrigEntry.tag).Nodup ∧
      ({ waiting with sent := true, remaining := 0 } : OrigEntry) ∈ ({ asking with originator := [{ waiting with sent := true, remaining := 0 }] } : State).originator ∧
      waiting.tag = (0 : Fin 32).val ∧
      member.responder.answering = [] ∧ ({ member with events := { upDue := true } } : State).events.upDue = true ∧
      ({ master with events := { lateDue := true } } : State).events.lateDue = true ∧
      member.events.upDue = false ∧ member.events.lateDue = false ∧
      ({ member with events := { startDue := true } } : State).events.startDue = true := by decide

theorem witness_InsertRecordDecided :
    member.resetAsserted = false ∧ member.port.giveResults.length < 4 ∧ member.port.stalled = [] ∧
      2 ≤ ([0x0105, 0x0004, 0x1122, 0x3344] : List Half).length ∧ giveKind [0x0105, 0x0004, 0x1122, 0x3344] = 1 ∧
      giveContext [0x0105, 0x0004, 0x1122, 0x3344] = (0 : Fin 16).val ∧ 15 < giveContext [0x0105, 0x8004, 0, 0] ∧
      1 ≤ giveLength [0x0105, 0x0004, 0x1122, 0x3344] ∧ giveLength [0x0105, 0x0004, 0x1122, 0x3344] ≤ 384 ∧ ([0x0105, 0x0004, 0x1122, 0x3344] : List Half).length % 2 = 0 ∧ (frameBody [0x0105, 0x0004, 0x1122, 0x3344]).length = (giveLength [0x0105, 0x0004, 0x1122, 0x3344] + 3) / 4 ∧
      ¬giveLength [0x0105, 0x0181] ≤ 384 ∧
      (withCtx dropCtx).contexts[(0 : Fin 16)].config.direction ≠ .insertSide ∧
      (withCtx insertCtx).contexts[(0 : Fin 16)].config.direction = .insertSide ∧
      (withCtx { insertCtx with state := .draining }).contexts[(0 : Fin 16)].state = .draining ∧
      (withCtx insertCtx).contexts[(0 : Fin 16)].queue.length < 4 ∧
      4 ≤ (List.replicate 4 ({ payload := [] } : InsertRec)).length ∧
      4 + (giveLength [0x0105, 0x0004, 0x1122, 0x3344] + 3) / 4 * 4 ≤ 4096 - (withCtx insertCtx).poolOccupancy ∧
      4096 - fullPool.poolOccupancy < 4 + (384 + 3) / 4 * 4 := by decide +kernel

theorem witness_LocalRequestDecided :
    busy.take (entry .read [0]) = none ∧ (member.take (entry .read [0])).isSome = true ∧
      ([entry .read [], entry .swap [0, 0], entry .command [0, 0], entry .writePosted (List.replicate 11 0)].map member.classify) =
        List.replicate 4 (.refuse .badRequest) ∧
      ([entry .command (command 0 0 0), entry .command (command 16 0 0)].map member.classify) = List.replicate 2 (.refuse .badRequest) ∧
      ([entry .read [0], entry .swap [0, 0, 0], entry .command (command 1 0 0), entry .command (command 3 0 0)].map member.classify) =
        List.replicate 4 .answer ∧
      ([entry .command (command 4 0 0), entry .command (command 15 0 0), entry .writePosted (List.replicate 10 0)].map fun e =>
        (member.classify e, ({ member with responder := { claim := { holder := some 4, lease := 1 } } } : State).classify e)) =
        List.replicate 3 (.enqueue, .refuse .notOwner) ∧
      member.responder.work.length < 4 ∧ 4 ≤ groupedFull.responder.work.length ∧
      member.resetAsserted = false ∧ member.port.giveResults.length < 4 ∧ member.port.stalled = [] ∧
      2 ≤ ([0x0205, BitVec.ofNat 16 (3 * 512 + 1), 0, 1] : List Half).length ∧ giveKind [0x0205, BitVec.ofNat 16 (3 * 512 + 1), 0, 1] = 2 ∧ giveKind [0x0205, BitVec.ofNat 16 (126 * 512 + 1), 0, 1] = 2 ∧
      5 ≤ giveReqKind [0x0205, 320] ∧
      reqKindCode .read = giveReqKind [0x0205, BitVec.ofNat 16 (3 * 512 + 1), 0, 1] ∧
      isTrunkDest (giveDest [0x0205, BitVec.ofNat 16 (3 * 512 + 1), 0, 1]) = true ∧ giveDest [0x0205, BitVec.ofNat 16 (126 * 512 + 1), 0, 1] = 126 ∧
      giveBodyLength [0x0205, BitVec.ofNat 16 (3 * 512 + 1), 0, 1] ≤ 10 ∧ giveBodyLength [0x0205, BitVec.ofNat 16 (3 * 512 + 1), 0, 1] = (frameBody [0x0205, BitVec.ofNat 16 (3 * 512 + 1), 0, 1]).length ∧ ([0x0205, BitVec.ofNat 16 (3 * 512 + 1), 0, 1] : List Half).length % 2 = 0 ∧
      (frameBody [0x0205, BitVec.ofNat 16 (3 * 512 + 1), 0, 1]).length = 1 ∧ 1 ≤ reqCount (frameBody [0x0205, BitVec.ofNat 16 (3 * 512 + 1), 0, 1]) ∧ reqCount (frameBody [0x0205, BitVec.ofNat 16 (3 * 512 + 1), 0, 1]) ≤ 8 ∧
      ¬(giveDest [0x0205, BitVec.ofNat 16 (3 * 512 + 1), 0, 1] = 126 ∨ member.tracker.nodeId = some (giveDest [0x0205, BitVec.ofNat 16 (3 * 512 + 1), 0, 1])) ∧
      State.reset.tracker.tracking ≠ .inRound ∧ member.tracker.tracking = .inRound ∧
      member.freeCompletions ≠ 0 ∧ member.originator.length < 4 ∧
      ({ member with port := { completions := List.replicate 8 { ref := 0, status := 0, body := [] } } } : State).freeCompletions = 0 ∧
      4 ≤ (List.replicate 4 waiting).length := by decide +kernel

theorem witness_GiveLane :
    member.resetAsserted = false ∧ member.port.giveResults.length < 4 ∧ member.port.stalled = [] ∧
      ([0x0505] : List Half).length < 2 ∧
      2 ≤ ([0x0505, 0] : List Half).length ∧ giveKind [0x0505, 0] ≠ 1 ∧ giveKind [0x0505, 0] ≠ 2 ∧
      4 ≤ (List.replicate 4 ({ ref := 0, kind := 1, status := .ok } : GiveResult)).length ∧ State.reset.resetAsserted = true ∧
      ({ stalled := [[0x0505, 0]] } : Port).stalled ≠ [] ∧
      Work.unstall ∈ ({ member with port := { stalled := [[0x0505, 0], [0x0605, 0]] } } : State).due ∧
      Work.unstall ∉ ({ member with port := { stalled := [[0x0505, 0]], giveResults := List.replicate 4 { ref := 0, kind := 1, status := .ok } } } : State).due := by
  decide +kernel

theorem witness_TakeLane :
    member.resetAsserted = false ∧ member.port.transfer = none ∧
      ({ giveResults := [{ ref := 0, kind := 1, status := .ok }] } : Port).giveResults = { ref := 0, kind := 1, status := .ok } :: [] ∧
      member.port.giveResults = [] ∧ member.port.completions = [] ∧
      ({ completions := [{ ref := 0, status := 0, body := [] }] } : Port).completions = { ref := 0, status := 0, body := [] } :: [] ∧
      ({ member with events := { notice := .due } } : State).ownNoticeWaits = true ∧ member.ownNoticeWaits = false ∧
      ({ notice := some { source := 3, pending := 0, round := 0 } } : Port).notice = some { source := 3, pending := 0, round := 0 } ∧
      member.port.notice = none ∧ member.drop.records = [] ∧
      ({ records := [oneRecord] } : DropQueue).records = oneRecord :: [] ∧ ({ records := [oneRecord] } : DropQueue).inTransfer = false ∧
      ({ member with drop := { records := [oneRecord], inTransfer := true } } : State).takeChoice = none ∧
      ({ member with drop := { records := [oneRecord, oneRecord], inTransfer := true } } : State).takeChoice = some .dropRecord ∧
      ({ member with config := { target := .node 5 }, events := { notice := .due } } : State).ownNoticeWaits = true ∧
      ({ member with config := { target := .node 3 }, events := { notice := .due } } : State).ownNoticeWaits = false ∧
      ([1, 2] : List Word)[1]? = some 2 ∧ ({ member with port := { completions := [{ ref := 0, status := 0, body := [] }] } } : State).takeChoice =
        some .completion ∧
      ({ transfer := some { kind := .completion, words := [], place := 1 } } : Port).transfer = some { kind := .completion, words := [], place := 1 } ∧
      ({ transfer := some { kind := .dropRecord, words := [], place := 1 } } : Port).transfer = some { kind := .dropRecord, words := [], place := 1 } := by decide +kernel

theorem witness_LimitsKept : member.Limits ∧ step member = .next member := by
  refine ⟨?_, rfl⟩
  constructor <;> decide +kernel

theorem witness_PlanLegalKept : member.PlanLegal ∧ step member = .next member := by
  refine ⟨⟨⟨by decide, by decide, by unfold Rotation.Legal; decide, ?_⟩, ?_⟩, rfl⟩
  · intro e he; simp [member, upWith] at he
  · intro p hp; simp [member, upWith] at hp

theorem witness_TrackerLegalKept : member.TrackerLegal ∧ step member = .next member := by
  refine ⟨⟨by decide, ?_⟩, rfl⟩
  constructor <;> decide

/-! ### One step of a command -/

/-- A field of the state after one command. -/
def after (i : Instr) (s : State) {α : Type} (f : State → α) : Option α :=
  match exec i s with
  | .next t => some (f t)
  | _ => none

/-- R1, R23: the 32nd idle symbol takes the link UP and the tracker to SEEKING. -/
theorem test_link_up :
    after (.symbolReceived .idle) { resetAsserted := false, inPort := { link := .training, goodIdle := 31 } } (fun t => (t.inPort.link, t.tracker.tracking)) =
      some (.up, .seeking) := by decide +kernel

/-- R1, R22: the 16th symbol in a row with a coding error takes the link DOWN. -/
theorem test_error_run :
    after (.symbolReceived .invalid) { seeking with inPort := { link := .up, errorRun := 15 } } (fun t => (t.inPort.link, t.tracker.tracking)) =
      some (.down, .down) := by decide +kernel

/-- R10, R25: the third tick without a header sends a RESTART marker and a CLAIM and takes the node into ENUMERATING. -/
theorem test_round_loss :
    after .tick { member with tracker := { member.tracker with missed := 2 } } (fun t => (t.tracker.tracking, t.line.length)) =
      some (.enumerating, 2) := by decide +kernel

/-- R28, R29: the return of the node's own CLAIM makes it MASTER with ID 0 in CALLING. -/
theorem test_election_won :
    after (.claimFrameArrival (frame true 1 2 0 0 7).1 (frame true 1 2 0 0 7).2.1 (frame true 1 2 0 0 7).2.2.1 (frame true 1 2 0 0 7).2.2.2)
        (enumerating .claiming) (fun t => (t.tracker.role, t.tracker.phase, t.tracker.nodeId)) =
      some (.master, .calling, some 0) := by decide +kernel

/-- R21, R28: a node of rank 0 never wins: its own CLAIM goes on and it stays MEMBER in CLAIMING. -/
theorem test_rank_zero_forwards :
    after (.claimFrameArrival (frame true 1 2 0 0 7).1 (frame true 1 2 0 0 7).2.1 (frame true 1 2 0 0 7).2.2.1 (frame true 1 2 0 0 7).2.2.2)
        rankZero (fun t => (t.tracker.role, t.tracker.phase, t.line.length)) =
      some (.member, .claiming, 1) := by decide +kernel

/-- R176, R178: a CLEAR_EVENTS applied out of IN_ROUND that leaves no enabled event pending ends the reminder count. -/
theorem test_clear_outside_round :
    after .clearEvents { seeking with
        responder := { work := [selfEntry .command (command 10 0 1)], applyDue := 1 }
        config := { enable := 3 }, events := { pending := 1, reminder := 300 } }
        (fun t => (t.events.pending, t.events.reminder)) = some (0, 0) := by decide +kernel

/-- A late emission at which a CLEAR_EVENTS of RING_LATE, which is enabled, waits in the work queue: one run for each order. -/
def lateClear (choice : Nat) : State :=
  { master with
    responder := { work := [selfEntry .command (command 10 0 32)] }
    config := { enable := 32, target := .local }, choice := choice }

/-- R178: where the raise is taken first the clear removes its flag, and where the clear is taken first the flag is set after it; the
notice that the raise makes due stays due in both. -/
theorem test_late_against_clear :
    ([0, 3].map fun c => after .roundEmission (lateClear c) (fun t => (t.events.pending, t.events.notice, t.events.lateDue))) =
      [some (0, .due, false), some (32, .due, false)] := by decide +kernel

/-- R8: a TRAILER marker before the last slot sends the missing slot as an idle cell and counts FRAMING_FAULT at once; the
ROUND_HEADER marker that cuts it short finishes the round and counts its own. -/
theorem test_trailer_marker_cut :
    (after (.symbolReceived (.marker .trailer)) inSlots fun t =>
        (t.line.length, t.counters[NodeCounter.framingFault.index], t.rx.phase,
          after (.symbolReceived (.marker .roundHeader)) t fun u => (u.line.length, u.counters[NodeCounter.framingFault.index]))) =
      some (1, 1, .openRegion, some (2, 2)) := by decide +kernel

/-- R161: the end of a Give result's transfer makes GREADY high again, and the frame on the lane is taken and decided. -/
theorem test_frame_on_lane :
    after .takeFrameStart { member with port := { stalled := [[0x0505, 0]], giveResults := List.replicate 4 { ref := 0, kind := 2, status := .ok } } }
        (fun t => (t.port.stalled, t.port.giveResults.getLast?)) = some ([], some { ref := 5, kind := 5, status := .badRequest }) := by
  decide +kernel

/-- R125, R142, 12.3: a READ of IDENTITY 4 delivered to node 5 is answered at once with the node ID. -/
theorem test_read_identity :
    after (.messageArrival (buildMessage 0 5 3 6 2 false 0 [field 23 16 4 ||| 1])) inOpen (fun t => t.responder.replies) =
      some [{ dest := 3, tag := 6, status := .ok, body := [5] }] := by decide +kernel

/-- R152: a CLAIM of 100 round starts from node 3 is granted, with the holder and the lease in the reply. -/
theorem test_claim :
    after (.messageArrival (buildMessage 4 5 3 6 2 false 0 (command 1 0 100))) inOpen
        (fun t => (t.responder.claim, t.responder.replies.map (·.body))) =
      some ({ holder := some 3, lease := 100 }, [[field 31 24 3 ||| 100]]) := by decide +kernel

/-- R125, R144: a COMMIT_PLAN taken IN_ROUND waits in the work queue with a reply place reserved. -/
theorem test_command_waits :
    after (.messageArrival (buildMessage 4 5 3 6 2 false 0 (command 4 0 9))) inOpen
        (fun t => (t.responder.work.map (·.place), t.responder.freeReplies)) = some ([true], 2) := by decide +kernel

/-- R160, R165, R166: a LOCAL_REQUEST to SELF for the word count 1 of IDENTITY 4 completes at its acceptance. -/
theorem test_self_read :
    after (.localRequest [0x0205, 0xFC01, 0x0004, 0x0001]) member (fun t => (t.port.giveResults, t.port.completions)) =
      some ([{ ref := 5, kind := 2, status := .ok }], [{ ref := 5, status := 0, body := [5] }]) := by decide +kernel

/-- R111, R112: an INSERT_RECORD of 4 bytes joins its context's queue. -/
theorem test_insert_record :
    after (.insertRecord [0x0105, 0x0004, 0x1122, 0x3344]) (withCtx insertCtx)
        (fun t => (t.port.giveResults.map (·.status), t.contexts[0].queue.map (·.payload))) =
      some ([.ok], [[0x11, 0x22, 0x33, 0x44]]) := by decide +kernel

/-- R108, R163, 12.2: the first word of a waiting drop record starts its frame, whose header and payload stand as laid out. -/
theorem test_take_drop :
    after .takeFrameStart { member with drop := { records := [oneRecord] } } (fun t => (t.drop.inTransfer, t.port.transfer.map (·.words))) =
      some (true, some [0x0B000120, 0x00000801, 0x01000000]) := by decide +kernel

/-- R159, R182: the start carries the first transfer of the frame, with KFIRST, and the end the rest, the last with KLAST. -/
theorem test_take_lane :
    (after .takeFrameStart { member with port := { giveResults := [{ ref := 5, kind := 2, status := .ok }] } } fun t =>
        (t.port.lane, (after .takeFrameEnd t fun u => u.port.lane.map fun x => (x.first, x.last)))) =
      some ([{ data := 0x0805, first := true, last := false }], some [(true, false), (false, true)]) := by decide +kernel

/-- R128, R130: a group READ of the COUNTERS word of MSG_STALE is answered before the hop-budget test counts it. -/
theorem test_group_read_before_stale :
    after (.messageArrival (buildMessage 0 64 3 6 1 false 0 [field 31 24 8 ||| field 23 16 28 ||| 1])) grouped
        (fun t => t.responder.replies.map (·.body)) = some [[0]] := by decide +kernel

/-- R131: a message forwarded by a member goes out with one hop less. -/
theorem test_forward_hops :
    after (.messageArrival (buildMessage 0 9 3 1 2 false 0 [0])) inOpen
        (fun t => t.line.map fun x => match x with | .message m => msgHops m | _ => 0) = some [1] := by decide +kernel

/-- 7.1, Example: with 7840 bytes held, a record of 300 bytes takes the occupancy to 8148, above a threshold of 7900. -/
theorem test_threshold_crossing :
    (let s : State := { withCtx dropCtx with
        drop := { records := List.replicate 20 { oneRecord with payload := List.replicate 384 0 } }
        config := { threshold := 7900 } }
      let t := s.offer 0 { old with payload := List.replicate 300 0 }
      (dropOccupancy s.drop, dropOccupancy t.drop, t.events.pending)) = (7840, 8148, Event.dropQueueThreshold.mask) := by
  decide +kernel

end Sys2Proof.Tests
end

section
/-!
The Plan Store's edit requests: one equation for each row of R47's table, and the limits of the edit list as invariants of an
edit request.
-/

namespace Sys2Proof.Machine

open Sys2Proof

/-! ### The rows of R47 -/

section Rows

variable {p : PlanStore} {e : Edit}

theorem PlanStore.takeEdit_of_commit_pending (hc : p.commit ≠ .none) : p.takeEdit e = (.commitPending, p) :=
  if_pos hc

theorem PlanStore.takeEdit_of_target_held (hc : p.commit = .none) (ht : ∃ x ∈ p.edits, x.target = e.target) :
    p.takeEdit e = (.ok, { p with edits := p.edits.map fun x => if x.target = e.target then e else x }) := by
  have hany : p.edits.any (fun x => x.target == e.target) = true := by simpa using ht
  rw [PlanStore.takeEdit, if_neg (not_not.2 hc), if_pos hany]

/-- With no edit of the target held, the number of edits alone decides. -/
theorem PlanStore.takeEdit_of_target_not_held (hc : p.commit = .none) (ht : ¬∃ x ∈ p.edits, x.target = e.target) :
    p.takeEdit e = if p.edits.length < 16 then (.ok, { p with edits := p.edits ++ [e] }) else (.editFull, p) := by
  have hany : ¬p.edits.any (fun x => x.target == e.target) = true := by simpa using ht
  rw [PlanStore.takeEdit, if_neg (not_not.2 hc), if_neg hany, Config.editLimit]

end Rows

/-! ### The limits of the edit list -/

/-- A replacement changes values and never targets, so the list of targets is the same, place by place. -/
theorem map_target_replace (l : List Edit) (e : Edit) :
    (l.map fun x => if x.target = e.target then e else x).map Edit.target = l.map Edit.target := by
  rw [List.map_map]
  refine List.map_congr_left fun x _ => ?_
  by_cases h : x.target = e.target <;> simp [h]

/-- All that an edit request can do to the edit list: nothing, a replacement, or an appended edit of a new target where there is
room. -/
theorem PlanStore.takeEdit_edits_cases (p : PlanStore) (e : Edit) :
    (p.takeEdit e).2.edits = p.edits ∨
    (p.takeEdit e).2.edits = p.edits.map (fun x => if x.target = e.target then e else x) ∨
    ((p.takeEdit e).2.edits = p.edits ++ [e] ∧ p.edits.length < 16 ∧ ¬∃ x ∈ p.edits, x.target = e.target) := by
  by_cases hc : p.commit = .none
  · by_cases ht : ∃ x ∈ p.edits, x.target = e.target
    · exact .inr (.inl (by rw [takeEdit_of_target_held hc ht]))
    · rw [takeEdit_of_target_not_held hc ht]
      by_cases hl : p.edits.length < 16
      · exact .inr (.inr ⟨by rw [if_pos hl], hl, ht⟩)
      · exact .inl (by rw [if_neg hl])
  · exact .inl (by rw [takeEdit_of_commit_pending hc])

theorem PlanStore.takeEdit_edits_length_le (p : PlanStore) (e : Edit) (h : p.edits.length ≤ 16) :
    (p.takeEdit e).2.edits.length ≤ 16 := by
  obtain heq | heq | ⟨heq, hroom, -⟩ := p.takeEdit_edits_cases e <;> rw [heq]
  · exact h
  · rwa [List.length_map]
  · simpa using hroom

theorem PlanStore.takeEdit_targets_nodup (p : PlanStore) (e : Edit) (h : (p.edits.map Edit.target).Nodup) :
    ((p.takeEdit e).2.edits.map Edit.target).Nodup := by
  obtain heq | heq | ⟨heq, -, hnew⟩ := p.takeEdit_edits_cases e <;> rw [heq]
  · exact h
  · rwa [map_target_replace]
  · have hnotMem : e.target ∉ p.edits.map Edit.target := by simpa using hnew
    rw [List.map_append, List.map_singleton, ← List.concat_eq_append]
    exact h.concat hnotMem

/-- Settles O38: R47's table row by row, and the two limits of the edit list from what a request can do to it. -/
theorem editRequestTaken : Obligations.EditRequestTaken := fun p e =>
  ⟨PlanStore.takeEdit_of_commit_pending,
    fun hc =>
      ⟨PlanStore.takeEdit_of_target_held hc, fun ht =>
        ⟨fun hroom => by rw [PlanStore.takeEdit_of_target_not_held hc ht, if_pos hroom],
          fun hfull => by rw [PlanStore.takeEdit_of_target_not_held hc ht, if_neg (Nat.not_lt.2 hfull)]⟩⟩,
    fun hlen hnodup => ⟨p.takeEdit_edits_length_le e hlen, p.takeEdit_targets_nodup e hnodup⟩⟩

end Sys2Proof.Machine
end

section
/-!
The filter decision: a filter unit bit by bit (R98), the table of the combine modes (R99), and the decision of a context for each
way of naming units.
-/

namespace Sys2Proof.Machine

open Sys2Proof

/-! ### One unit (R98) -/

/-- The comparison of a unit at one bit: it is clear where the mask does not ask for the bit or the two words agree. -/
theorem getLsbD_xor_and_eq_false_iff {w : Nat} (x p m : BitVec w) (k : Nat) :
    ((x ^^^ p) &&& m).getLsbD k = false ↔ (m.getLsbD k = true → x.getLsbD k = p.getLsbD k) := by
  rw [BitVec.getLsbD_and, BitVec.getLsbD_xor]
  cases m.getLsbD k <;> simp

theorem FilterUnit.matches_iff (u : FilterUnit) (test : Word) :
    u.matches test = true ↔
      ∀ k : Nat, k < 32 → u.mask.getLsbD k = true → test.getLsbD k = u.pattern.getLsbD k := by
  simp only [← getLsbD_xor_and_eq_false_iff]
  rw [FilterUnit.matches, beq_iff_eq]
  refine ⟨fun h k _ => ?_, fun h => BitVec.eq_of_getLsbD_eq fun k hk => ?_⟩
  · simp [h]
  · simp [h k hk]

/-! ### Two results (R99) -/

theorem Combine.decide_any_iff (a b : Bool) : Combine.any.decide a b = true ↔ a = true ∨ b = true :=
  Bool.or_eq_true_iff

theorem Combine.decide_all_iff (a b : Bool) : Combine.all.decide a b = true ↔ a = true ∧ b = true :=
  Bool.and_eq_true_iff

theorem Combine.decide_none_iff (a b : Bool) : Combine.none.decide a b = true ↔ a = false ∧ b = false := by
  simp only [Combine.decide, Bool.not_eq_true', Bool.or_eq_false_iff]

theorem Combine.decide_notAll_iff (a b : Bool) : Combine.notAll.decide a b = true ↔ a = false ∨ b = false := by
  simp only [Combine.decide, Bool.not_eq_true', Bool.and_eq_false_iff]

/-! ### The decision of a context (R99) -/

section Decision

variable {c : CtxConfig} {a b : Fin 8} (fs : Vector FilterUnit 8) (test : Word)

theorem CtxConfig.accepts_of_two (ha : c.filterA = some a) (hb : c.filterB = some b) :
    c.accepts fs test = c.combine.decide (fs[a].matches test) (fs[b].matches test) := by
  rw [CtxConfig.accepts, ha, hb]

theorem CtxConfig.accepts_of_filterA_only (ha : c.filterA = some a) (hb : c.filterB = none) :
    c.accepts fs test = fs[a].matches test := by
  rw [CtxConfig.accepts, ha, hb]

theorem CtxConfig.accepts_of_filterB_only (ha : c.filterA = none) (hb : c.filterB = some b) :
    c.accepts fs test = fs[b].matches test := by
  rw [CtxConfig.accepts, ha, hb]

theorem CtxConfig.accepts_of_no_filter (ha : c.filterA = none) (hb : c.filterB = none) : c.accepts fs test = true := by
  rw [CtxConfig.accepts, ha, hb]

end Decision

/-- Settles O26: a unit bit by bit, then the decision by the references: two units by the table of the combine mode, one alone by its
result, and none. -/
theorem filterDecision : Obligations.FilterDecision := by
  refine ⟨FilterUnit.matches_iff, fun c fs test => ⟨fun a b ha hb => ?twoUnits, fun a h => ?oneUnit,
    CtxConfig.accepts_of_no_filter fs test⟩⟩
  case twoUnits =>
    rw [CtxConfig.accepts_of_two fs test ha hb]
    refine ⟨fun hm => ?_, fun hm => ?_, fun hm => ?_, fun hm => ?_⟩ <;> rw [hm]
    · exact Combine.decide_any_iff _ _
    · exact Combine.decide_all_iff _ _
    · exact Combine.decide_none_iff _ _
    · exact Combine.decide_notAll_iff _ _
  case oneUnit =>
    obtain ⟨ha, hb⟩ | ⟨ha, hb⟩ := h
    · exact CtxConfig.accepts_of_filterA_only fs test ha hb
    · exact CtxConfig.accepts_of_filterB_only fs test ha hb

end Sys2Proof.Machine
end

section
/-!
The Insert Pool's offers: the six tests of an INSERT_RECORD in the order of R111's table, what an accepted record and a refused offer
leave behind (R111, R112), and the one GIVE_RESULT of either.
-/

namespace Sys2Proof.Machine

open Sys2Proof

/-! ### The bytes of an offered record -/

theorem length_flatMap_wordBytes (ws : List Word) : (ws.flatMap wordBytes).length = 4 * ws.length := by
  induction ws with
  | nil => rfl
  | cons w ws ih =>
    have hw : (wordBytes w).length = 4 := rfl
    rw [List.flatMap_cons, List.length_append, hw, ih, List.length_cons]
    omega

/-- The fourth test of R111: a length within its bounds, an even number of transfers, and the words that the length asks for. -/
def InsertLengthFits (f : List Half) : Prop :=
  1 ≤ giveLength f ∧ giveLength f ≤ 384 ∧ f.length % 2 = 0 ∧ (frameBody f).length = (giveLength f + 3) / 4

/-- The words of a frame whose length fits hold at least the bytes that its header names, so none of them is missing. -/
theorem InsertLengthFits.length_recordBytes {f : List Half} (h : InsertLengthFits f) : (recordBytes f).length = giveLength f := by
  obtain ⟨-, -, -, hbody⟩ := h
  rw [recordBytes, List.length_take, length_flatMap_wordBytes, hbody]
  omega

/-- The charge of R110 for a record whose length fits, by the length in the header. -/
theorem InsertLengthFits.insertCharge_eq {f : List Half} (h : InsertLengthFits f) :
    insertCharge { payload := recordBytes f } = 4 + (giveLength f + 3) / 4 * 4 := by
  rw [insertCharge, roundUp4, h.length_recordBytes]

/-- The model's own form of the length test fails exactly for the frames whose length does not fit. -/
theorem insertLengthTest_iff (f : List Half) :
    (!(decide (1 ≤ giveLength f) && decide (giveLength f ≤ 384)) || frameOdd f ||
      (frameBody f).length != (giveLength f + 3) / 4) = true ↔ ¬InsertLengthFits f := by
  have hodd : frameOdd f = true ↔ f.length % 2 = 1 := by simp [frameOdd]
  simp only [InsertLengthFits, Bool.or_eq_true, Bool.not_eq_true', Bool.and_eq_false_iff, decide_eq_false_iff_not, bne_iff_ne, hodd]
  omega

/-! ### The rows of R111 -/

theorem ctxOf_val (i : Fin 16) : ctxOf i.val = i := Fin.ofNat_val_eq_self i

section Rows

variable {f : List Half} {s : State} {i : Fin 16}

theorem State.insertTest_of_context_above (h : 15 < giveContext f) : s.insertTest f = .badRequest := if_pos h

theorem State.insertTest_of_length_misfit (hctx : giveContext f = i.val) (h : ¬InsertLengthFits f) : s.insertTest f = .badLength := by
  rw [State.insertTest, if_neg (by omega), if_pos ((insertLengthTest_iff f).2 h)]

/-- The rows after the length test, with the charge by the length in the header. -/
theorem State.insertTest_of_length_fits (hctx : giveContext f = i.val) (h : InsertLengthFits f) :
    s.insertTest f =
      if s.contexts[i].config.direction ≠ .insertSide then .notInsertSide
      else if s.contexts[i].state = .draining then .wrongState
      else if 4 ≤ s.contexts[i].queue.length then .queueFull
      else if 4096 - s.poolOccupancy < 4 + (giveLength f + 3) / 4 * 4 then .poolFull
      else .ok := by
  have hfit := (insertLengthTest_iff f).not.2 (not_not.2 h)
  obtain rfl : i = ctxOf (giveContext f) := by rw [hctx, ctxOf_val]
  rw [State.insertTest, if_neg (by omega), if_neg hfit, h.insertCharge_eq]
  rfl

end Rows

/-! ### The offer and its GIVE_RESULT -/

section Taken

variable {f : List Half} {s : State} {i : Fin 16}

theorem State.insertOffer_of_refused (h : s.insertTest f ≠ .ok) : s.insertOffer f = (s.insertTest f, s.count .insertOffersRefused) :=
  if_neg h

theorem State.insertOffer_of_accepted (hctx : giveContext f = i.val) (h : s.insertTest f = .ok) :
    s.insertOffer f = (.ok, s.mapCtx i fun c => { c with queue := c.queue ++ [{ payload := recordBytes f }] }) := by
  rw [State.insertOffer, if_pos h, hctx, ctxOf_val]

/-- An INSERT_RECORD frame with a whole header is answered by the status of its offer. -/
theorem State.decideGive_insertRecord (hwords : 2 ≤ f.length) (hkind : giveKind f = 1) :
    s.decideGive f = (s.insertOffer f).2.giveResult f (s.insertOffer f).1 := by
  have hwhole : ¬frameShort f = true := by simpa [frameShort, Nat.lt_iff_add_one_le] using hwords
  rw [State.decideGive, if_neg hwhole, if_pos hkind]

/-- What GREADY high, nothing on the lane, and a whole INSERT_RECORD header give: the frame is decided within the command. -/
structure InsertTaken (f : List Half) (s : State) : Prop where
  released : s.resetAsserted = false
  resultRoom : s.port.giveResults.length < 4
  laneFree : s.port.stalled = []
  headerWhole : 2 ≤ f.length
  kind : giveKind f = 1

theorem InsertTaken.exec_eq (h : InsertTaken f s) :
    exec (.insertRecord f) s = .next ((s.insertOffer f).2.giveResult f (s.insertOffer f).1).finish := by
  rw [← State.decideGive_insertRecord h.headerWhole h.kind, ← State.giveFrame_taken h.released h.resultRoom h.laneFree f]
  rfl

theorem InsertTaken.exec_of_refused (h : InsertTaken f s) {st : Status} (htest : s.insertTest f = st) (hst : st ≠ .ok) :
    exec (.insertRecord f) s = .next (State.finish
      { s with
        counters := (s.count .insertOffersRefused).counters
        port := { s.port with giveResults := s.port.giveResults ++ [{ ref := giveRef f, kind := 1, status := st }] } }) := by
  rw [h.exec_eq, State.insertOffer_of_refused (htest ▸ hst), htest, State.giveResult, h.kind]
  rfl

theorem InsertTaken.exec_of_accepted (h : InsertTaken f s) (hctx : giveContext f = i.val) (htest : s.insertTest f = .ok) :
    exec (.insertRecord f) s = .next (State.finish
      { s with
        contexts := s.contexts.set i { s.contexts[i] with queue := s.contexts[i].queue ++ [{ payload := recordBytes f }] }
        port := { s.port with giveResults := s.port.giveResults ++ [{ ref := giveRef f, kind := 1, status := .ok }] } }) := by
  rw [h.exec_eq, State.insertOffer_of_accepted hctx htest, State.giveResult, h.kind]
  rfl

end Taken

/-- Settles O53: the rows of R111 one by one, each a refusal by the first test that fails, and R112 where none does. -/
theorem insertRecordDecided : Obligations.InsertRecordDecided := by
  intro f s hreleased hroom hlane hwords hkind
  have taken : InsertTaken f s := ⟨hreleased, hroom, hlane, hwords, hkind⟩
  refine ⟨fun habove => taken.exec_of_refused (State.insertTest_of_context_above habove) (by decide), fun i hctx =>
    ⟨fun hmisfit => taken.exec_of_refused (State.insertTest_of_length_misfit hctx hmisfit) (by decide), fun hfits => ?_⟩⟩
  have rows := State.insertTest_of_length_fits (s := s) hctx hfits
  refine ⟨fun hside => taken.exec_of_refused ?notInsertSide (by decide), fun hside =>
    ⟨fun hdraining => taken.exec_of_refused ?wrongState (by decide), fun hstate =>
      ⟨fun hfull => taken.exec_of_refused ?queueFull (by decide), fun hqueue =>
        ⟨fun hpool => taken.exec_of_refused ?poolFull (by decide), fun hpool => taken.exec_of_accepted hctx ?accepted⟩⟩⟩⟩
  case notInsertSide => rw [rows, if_pos hside]
  case wrongState => rw [rows, if_neg (not_not.2 hside), if_pos hdraining]
  case queueFull => rw [rows, if_neg (not_not.2 hside), if_neg hstate, if_pos hfull]
  case poolFull => rw [rows, if_neg (not_not.2 hside), if_neg hstate, if_neg (Nat.not_le.2 hqueue), if_pos hpool]
  case accepted =>
    rw [rows, if_neg (not_not.2 hside), if_neg hstate, if_neg (Nat.not_le.2 hqueue), if_neg (Nat.not_lt.2 hpool)]

end Sys2Proof.Machine
end

section
/-!
Raised events: what raising an event does to the Event unit (R174), and that two raises commute.
-/

namespace Sys2Proof.Machine

open Sys2Proof

/-! ### The bit of an event -/

theorem Event.bit_lt (e : Event) : e.bit < 16 := by cases e <;> decide

theorem Event.getLsbD_mask (e : Event) (k : Nat) : e.mask.getLsbD k = (k == e.bit) := by
  rw [Event.mask, ← BitVec.twoPow_eq, BitVec.getLsbD_twoPow, decide_eq_true e.bit_lt, Bool.true_and, Bool.beq_eq_decide_eq]
  exact decide_eq_decide.2 eq_comm

/-! ### A raise in the Event unit -/

section Raise

variable {c : NodeConfig} {e f : Event} {u : EventUnit}

theorem EventUnit.raise_of_pending (h : u.pending.getLsbD e.bit = true) : u.raise c e = u := if_pos h

theorem EventUnit.raise_of_not_pending (h : u.pending.getLsbD e.bit = false) :
    u.raise c e =
      { u with
        pending := u.pending ||| e.mask
        notice := if c.enable.getLsbD e.bit = true ∧ c.target ≠ .none then .due else u.notice } := by
  rw [EventUnit.raise, if_neg (Bool.eq_false_iff.1 h)]
  simp only [Bool.and_eq_true, bne_iff_ne]

/-- A raise adds the event raised to the pending set and takes none from it. -/
theorem EventUnit.getLsbD_pending_raise (k : Nat) :
    (u.raise c e).pending.getLsbD k = (u.pending.getLsbD k || k == e.bit) := by
  cases h : u.pending.getLsbD e.bit
  case false => rw [raise_of_not_pending h, BitVec.getLsbD_or, e.getLsbD_mask]
  case true =>
    rw [raise_of_pending h]
    by_cases hke : k = e.bit
    · rw [hke, h, Bool.true_or]
    · rw [beq_false_of_ne hke, Bool.or_false]

theorem EventUnit.pending_raise_of_pending (h : u.pending.getLsbD e.bit = true) :
    (u.raise c f).pending.getLsbD e.bit = true := by
  rw [getLsbD_pending_raise, h, Bool.true_or]

theorem EventUnit.not_pending_raise (hne : e.bit ≠ f.bit) (h : u.pending.getLsbD e.bit = false) :
    (u.raise c f).pending.getLsbD e.bit = false := by
  rw [getLsbD_pending_raise, h, beq_false_of_ne hne, Bool.or_false]

/-- The Event unit knows an event by its bit alone. -/
theorem EventUnit.raise_congr (h : e.bit = f.bit) : u.raise c e = u.raise c f := by
  rw [raise, raise, Event.mask, Event.mask, h]

/-- An event pending before either raise is raised to no effect in both orders; of two new events each adds its own bit, and the notice
is due where either makes it so. -/
theorem EventUnit.raise_comm (c : NodeConfig) (e f : Event) (u : EventUnit) :
    (u.raise c e).raise c f = (u.raise c f).raise c e := by
  cases he : u.pending.getLsbD e.bit
  case true => rw [raise_of_pending he, raise_of_pending (pending_raise_of_pending he)]
  case false =>
    cases hf : u.pending.getLsbD f.bit
    case true => rw [raise_of_pending hf, raise_of_pending (pending_raise_of_pending hf)]
    case false =>
      by_cases hbit : e.bit = f.bit
      · rw [raise_congr (e := e) hbit, raise_congr (e := e) hbit]
      · rw [raise_of_not_pending (not_pending_raise (Ne.symm hbit) hf), raise_of_not_pending (not_pending_raise hbit he),
          raise_of_not_pending he, raise_of_not_pending hf, EventUnit.mk.injEq]
        refine ⟨?sets, ?notices, rfl, rfl, rfl, rfl⟩
        case sets => rw [BitVec.or_assoc, BitVec.or_comm e.mask, ← BitVec.or_assoc]
        case notices => split_ifs <;> rfl

end Raise

/-! ### A raise in the whole state -/

theorem State.raise_comm (e f : Event) (s : State) : (s.raise e).raise f = (s.raise f).raise e :=
  congrArg (fun u => { s with events := u }) (EventUnit.raise_comm s.config e f s.events)

/-- Settles O51: a raise of a pending event and of a new one by the equations of the Event unit, and the order of two raises by
`State.raise_comm`. -/
theorem eventRaised : Obligations.EventRaised := by
  intro e s
  refine ⟨fun hpending => ?repeated, fun hnew => ⟨s.events.pending ||| e.mask, fun k _ => ?bits, ?new⟩, fun f => s.raise_comm e f⟩
  case repeated => rw [State.raise, EventUnit.raise_of_pending hpending]
  case bits => rw [BitVec.getLsbD_or, e.getLsbD_mask]
  case new => rw [State.raise, EventUnit.raise_of_not_pending hnew]

end Sys2Proof.Machine
end

section
/-!
What a step can do, said once: the elementary moves of the machine, and that every step is made of them.  An invariant that each
elementary move keeps is then kept by every step.
-/

namespace Sys2Proof.Machine

open Sys2Proof

/-! ### The elementary moves -/

/-- What the invariants look at: the input link's state, the tracker, the Plan Store, the contexts, the records of the Drop Queue,
the Responder, the Originator table and what waits for the local equipment. -/
structure Blocks where
  link : LinkState
  tracker : Tracker
  plan : PlanStore
  contexts : Vector Context 16
  records : List DropRec
  responder : Responder
  originator : List OrigEntry
  results : List GiveResult
  completions : List Completion

def State.blocks (s : State) : Blocks :=
  { link := s.inPort.link
    tracker := s.tracker
    plan := s.plan
    contexts := s.contexts
    records := s.drop.records
    responder := s.responder
    originator := s.originator
    results := s.port.giveResults
    completions := s.port.completions }

/-- The tracker in DOWN (R22). -/
def Tracker.leave (t : Tracker) : Tracker :=
  { t with
    tracking := .down, nodeId := none, role := .member, missed := 0, phase := .none
    enumTimer := 0, seekTimer := 0, retryTimer := 0, failed := 0 }

/-- The ways in which the tracker moves while the link stays as it is. -/
inductive Tracker.Move (t : Tracker) : Tracker → Prop
  | tick : Move t t.tick
  | heard : t.tracking = .inRound → Move t { t with missed := 0 }
  | started (n : RoundNo) (p : RoundParams) : t.tracking = .inRound → Move t { t with round := n, params := p, missed := 0 }
  | configured (n : RoundNo) (p : RoundParams) : Move t { t with round := n, params := p }
  | joined : t.tracking = .enumerating →
      Move t { t with tracking := .inRound, phase := .none, enumTimer := 0, failed := 0, missed := 0, epoch := t.epoch + 1 }
  | attempted : t.tracking = .enumerating →
      Move t { t with phase := .claiming, nodeId := none, role := .member, enumTimer := 0 }
  | entered : t.tracking ≠ .down → Move t (t.attempt (if t.tracking = .isolated then 0 else t.failed))
  | failedOnce : t.tracking = .enumerating → t.failed + 1 < 4 → Move t { t with failed := t.failed + 1 }
  | isolated : t.tracking = .enumerating →
      Move t { t with
        failed := t.failed + 1, tracking := .isolated, phase := .none, nodeId := none, enumTimer := 0, retryTimer := 0 }
  | won (call : BitVec 8) : t.tracking = .enumerating → t.rank ≠ 0 →
      Move t { t with nodeId := some 0, role := .master, phase := .calling, callNo := call }
  | gaveUp : t.phase = .calling → Move t { t with role := .member, nodeId := none, phase := .claiming }
  | numbered (id : Nat) : t.tracking = .enumerating → id ≤ 59 →
      Move t { t with nodeId := some id, role := .member, phase := .numbered }
  | overflowed : t.tracking = .enumerating →
      Move t { t with
        tracking := .unnumbered, nodeId := none, role := .member, phase := .none, enumTimer := 0, failed := 0 }

/-- The elementary moves. -/
inductive State.Move (s : State) : State → Prop
  | same {t : State} : t.blocks = s.blocks → Move s t
  | tracker {tr : Tracker} : s.tracker.Move tr → Move s { s with tracker := tr }
  | link (l : LinkState) : s.inPort.link ≠ .up → l ≠ .up → Move s { s with inPort := { s.inPort with link := l } }
  | linkUp : s.inPort.link = .training → Move s s.linkUp
  | linkDown : Move s { s with inPort := { s.inPort with link := .down }, tracker := s.tracker.leave }
  | handRestart : Move s s.handRestart
  | planRestart : Move s s.planRestart
  | softReset : Move s s.softReset
  | hardReset (mrank : BitVec 2) : Move s (s.hardReset mrank)
  | slot (a : PlanEntry) (c : RxCell) : Move s (s.processSlot a c).2
  | message (m : RxMessage) : Move s (s.handleMessage m)
  | roundStart (first : Bool) : Move s (s.blockRoundStart first)
  | commit : Move s s.applyCommit
  | answer (row : AnswerRow) : Move s (s.answerHead row)
  | apply (row : WorkRow) : Move s (s.applyHead row)
  | released : Move s { s with responder := { s.responder with releases := s.responder.releases.erase .restartRing } }
  | expireClaim : Move s s.expireClaim
  | resumeAll : Move s s.resumeAll
  | endStale (i : Fin 16) : Move s (s.endStale i)
  | endDrain (i : Fin 16) : Move s (s.endDrain i)
  | timeOut (tag : Nat) : Move s (s.timeOut tag)
  | replyDeparts : Move s { s with responder := { s.responder with replies := s.responder.replies.drop 1 } }
  | requestSent (tag n : Nat) : Move s { s with originator := s.originator.map fun x =>
      if x.tag = tag then { x with sent := true, remaining := n } else x }
  | give (f : List Half) : s.gready = true → Move s (s.decideGive f)
  | take (k : TakeKind) : Move s (s.beginTake k)
  | takeEnd : Move s s.takeEnd

/-- What a run of elementary moves reaches. -/
abbrev State.Moves : State → State → Prop := Relation.ReflTransGen State.Move

theorem State.Moves.keeps {P : State → Prop} (hP : ∀ {s t : State}, s.Move t → P s → P t) {s t : State} (h : s.Moves t) (hs : P s) :
    P t := by
  induction h with
  | refl => exact hs
  | tail _ hmove ih => exact hP hmove ih

theorem State.Move.moves {s t : State} (h : s.Move t) : s.Moves t := .single h

theorem State.moves_of_blocks {s t : State} (h : t.blocks = s.blocks) : s.Moves t := .single (.same h)

theorem State.Moves.after {s t u : State} (h : t.Moves u) (hsame : t.blocks = s.blocks) : s.Moves u :=
  (moves_of_blocks hsame).trans h

/-! ### Operations that reach none of the blocks -/

section Same

variable (s : State)

theorem State.emit_blocks (x : TrunkItem) : State.blocks (s.emit x) = s.blocks := by simp [State.blocks]

theorem State.count_blocks (c : NodeCounter) : State.blocks (s.count c) = s.blocks := rfl

theorem State.raise_blocks (e : Event) : State.blocks (s.raise e) = s.blocks := rfl

theorem State.passOn_blocks (x : TrunkItem) : State.blocks (s.passOn x) = s.blocks := by
  unfold State.passOn; split
  · exact s.emit_blocks x
  · rfl

theorem State.relay_blocks (sym : Symbol) : State.blocks (s.relay sym) = s.blocks := by
  unfold State.relay; split
  · exact s.emit_blocks _
  · rfl

theorem State.sendMessage_blocks (m : RxMessage) : State.blocks (s.sendMessage m) = s.blocks := by
  unfold State.sendMessage; simp [State.blocks]

theorem State.sendRestart_blocks : State.blocks s.sendRestart = s.blocks := by simp [State.blocks]

theorem State.carryCell_blocks (c : RxCell) : State.blocks (s.carryCell c).2 = s.blocks := by
  unfold State.carryCell; (repeat' split) <;> rfl

theorem State.outsideData_blocks : State.blocks s.outsideData = s.blocks := by
  unfold State.outsideData; split <;> rfl

theorem State.markerInside_blocks : State.blocks s.markerInside = s.blocks := by
  unfold State.markerInside; (repeat' split) <;> rfl

theorem State.checkTrailer_blocks (w : RxWord) : State.blocks (s.checkTrailer w) = s.blocks := by
  unfold State.checkTrailer; split <;> rfl

theorem State.masterFinish_blocks : State.blocks s.masterFinish = s.blocks := by
  unfold State.masterFinish; (repeat' split) <;> rfl

theorem State.masterCell_blocks (c : RxCell) : State.blocks (s.masterCell c) = s.blocks := by
  unfold State.masterCell; (repeat' split) <;> rfl

theorem State.masterMessage_blocks (m : RxMessage) : State.blocks (s.masterMessage m) = s.blocks := by
  unfold State.masterMessage; (repeat' split) <;> rfl

theorem State.masterTrailer_blocks (w : RxWord) : State.blocks (s.masterTrailer w) = s.blocks := by
  unfold State.masterTrailer State.checkTrailer; (repeat' split) <;> rfl

theorem State.lateReturn_blocks : State.blocks s.lateReturn = s.blocks := by
  unfold State.lateReturn; split <;> rfl

theorem State.errorCount_blocks (sym : Symbol) : State.blocks (s.errorCount sym) = s.blocks := by
  unfold State.errorCount; split <;> rfl

end Same

/-! ### Restarts -/

section Restarts

variable {s : State}

theorem State.beginAttempt_moves (h : s.tracker.tracking = .enumerating) : s.Moves s.beginAttempt := by
  unfold State.beginAttempt
  refine (Move.tracker (.attempted h)).moves.trans ?_
  dsimp only
  split
  · exact .refl
  · exact moves_of_blocks (State.emit_blocks _ _)

theorem State.enterEnumerating_moves (h : s.tracker.tracking ≠ .down) : s.Moves s.enterEnumerating := by
  refine (Move.tracker (.entered h)).moves.trans (Move.handRestart.moves.trans (moves_of_blocks ?_))
  simp only [State.blocks, s.enterEnumerating_tracker]
  simp [State.enterEnumerating, State.handRestart, State.abandonAll]

theorem State.originateRestart_moves (h : s.tracker.tracking ≠ .down) : s.Moves s.originateRestart := by
  unfold State.originateRestart
  refine (moves_of_blocks s.sendRestart_blocks).trans ?_
  split
  · next he => exact beginAttempt_moves (by simpa using he)
  · exact enterEnumerating_moves (by simpa using h)

theorem State.restartReleased_moves : s.Moves s.restartReleased := by
  unfold State.restartReleased
  split
  · exact .refl
  · next h => exact originateRestart_moves h

theorem State.roundLoss_moves (h : s.tracker.tracking ≠ .down) : s.Moves s.roundLoss :=
  (moves_of_blocks (s.raise_blocks .roundLost)).trans (originateRestart_moves (by simpa using h))

theorem State.linkLost_moves : s.Moves s.linkLost := by
  refine Move.linkDown.moves.trans ?_
  unfold State.linkLost State.leaveUp
  dsimp only
  split
  · refine .tail (b := _) (moves_of_blocks ?_) .handRestart
    simp [State.blocks, Tracker.leave]
  · exact moves_of_blocks (by simp [State.blocks, Tracker.leave])

theorem State.enumerationTimeout_moves (h : s.tracker.tracking = .enumerating) : s.Moves s.enumerationTimeout := by
  refine (moves_of_blocks (s.count_blocks .enumTimeout)).trans ?_
  have h : (s.count .enumTimeout).tracker.tracking = .enumerating := h
  unfold State.enumerationTimeout
  dsimp only
  split
  · next hlt =>
    exact (Move.tracker (.failedOnce h hlt)).moves.trans (originateRestart_moves (ne_of_eq_of_ne h (by decide)))
  · exact (Move.tracker (.isolated h)).moves.trans (moves_of_blocks (raise_blocks _ _))

end Restarts

/-! ### The internal steps -/

theorem State.unstall_moves {s : State} (h : s.gready = true) : s.Moves s.unstall := by
  unfold State.unstall
  split
  · exact .refl
  · exact Moves.after ((Move.give _ (by exact h)).moves) rfl

/-- Every ready step is made of elementary moves. -/
theorem Work.perform_moves (w : Work) {s : State} (h : w.ready s = true) : s.Moves (w.perform s) := by
  cases w <;> simp only [Work.ready, Bool.and_eq_true, beq_iff_eq, State.inRound] at h <;> simp only [Work.perform]
  case answer row => exact (State.Move.answer row).moves
  case unstall => exact State.unstall_moves h.1
  case raiseUp => exact State.moves_of_blocks rfl
  case raiseLate => exact State.moves_of_blocks rfl
  case linkUp => exact (State.Move.linkUp h.1).moves
  case errorRunLimit => exact State.linkLost_moves
  case missedRoundMember => exact State.roundLoss_moves (by simp [h])
  case missedRoundMaster => exact State.roundLoss_moves (by simp [h])
  case seekTimeout => exact State.originateRestart_moves (by simp [h])
  case enumerationTimeout => exact State.enumerationTimeout_moves h.1
  case isolationRetry => exact State.originateRestart_moves (by simp [h])
  case planRestart => exact State.Move.planRestart.moves
  case commitApplied => exact State.Move.commit.moves
  case claimExpired => exact State.Move.expireClaim.moves
  case contextResume =>
    exact State.Moves.after State.Move.resumeAll.moves rfl
  case staleAssembly i => exact (State.Move.endStale i).moves
  case insertDrained i => exact (State.Move.endDrain i).moves
  case apply row => exact (State.Move.apply row).moves
  case transactionTimeout tag => exact (State.Move.timeOut tag).moves
  case noticeReminder => exact State.moves_of_blocks rfl
  case restartRelease => exact State.Move.released.moves.trans State.restartReleased_moves
  case softReset => exact State.Move.softReset.moves

section Internal

variable (s : State)

theorem State.choice_moves {s t : State} (n : Nat) (h : s.Moves t) : s.Moves { t with choice := n } :=
  h.tail (.same rfl)

theorem State.settle_moves : s.Moves s.settle :=
  State.settle_keeps (P := s.Moves) (fun _ n h => choice_moves n h) (fun w _ hr h => h.trans (w.perform_moves hr)) .refl

theorem State.finish_moves : s.Moves s.finish :=
  State.finish_keeps (P := s.Moves) (fun _ n h => choice_moves n h) (fun w _ hr h => h.trans (w.perform_moves hr)) .refl

theorem State.runWork_moves (w : Work) : s.Moves (s.runWork w) :=
  State.runWork_keeps (P := s.Moves) (fun w _ hr h => h.trans (w.perform_moves hr)) w .refl

end Internal

/-! ### Slots, messages and trailers -/

section Rounds

variable (s : State)

theorem State.handleSlot_moves (k : Nat) (c : RxCell) : s.Moves (s.handleSlot k c) :=
  (Move.slot (s.slotAction k) c).moves.trans (moves_of_blocks (emit_blocks _ _))

theorem State.memberSlot_moves (c : RxCell) : s.Moves (s.memberSlot c) := by
  unfold State.memberSlot
  split
  · exact Moves.after (handleSlot_moves _ _ _) rfl
  · exact moves_of_blocks s.outsideData_blocks
  · exact .refl

theorem State.memberFill_moves : s.Moves s.memberFill :=
  (moves_of_blocks (s.count_blocks .framingFault)).trans
    (State.memberMissing_keeps (P := s.framingFault.Moves) (fun t h => h.trans t.settle_moves)
      (fun t c h => h.trans (t.memberSlot_moves c)) _ .refl)

theorem State.memberMessage_moves (m : RxMessage) : s.Moves (s.memberMessage m) := by
  unfold State.memberMessage
  split
  · split
    · exact moves_of_blocks rfl
    · exact .refl
    · exact Moves.after ((Move.message m).moves) rfl
  · exact moves_of_blocks s.outsideData_blocks
  · exact .refl

theorem State.releaseMark_moves (mark : Option Release) : s.Moves (s.releaseMark mark) := by
  unfold State.releaseMark
  split
  · exact .refl
  · exact Move.softReset.moves
  · exact restartReleased_moves

theorem State.insertOffered_moves (o : Offer) : s.Moves (s.insertOffered o) := by
  refine (moves_of_blocks (s.sendMessage_blocks (s.offerMessage o))).trans ((moves_of_blocks (count_blocks _ .messagesInserted)).trans ?_)
  cases o with
  | reply r => exact Move.replyDeparts.moves.trans (releaseMark_moves _ _)
  | notice id => exact moves_of_blocks rfl
  | request e => exact (Move.requestSent e.tag _).moves

theorem State.sendTrailer_moves : s.Moves s.sendTrailer :=
  State.sendTrailer_keeps (P := s.Moves) (fun t h => h.trans (moves_of_blocks (t.count_blocks _)))
    (fun t o _ h => h.trans (t.insertOffered_moves o))
    (fun t x _ _ h => h.trans (moves_of_blocks (by simp [State.blocks]))) .refl

theorem State.memberTrailer_moves (w : RxWord) : s.Moves (s.memberTrailer w) := by
  have closed (t : State) : t.Moves (t.checkTrailer w).sendTrailer := (moves_of_blocks (t.checkTrailer_blocks w)).trans (sendTrailer_moves _)
  unfold State.memberTrailer
  split
  · dsimp only; split
    · exact s.memberFill_moves.trans (closed _)
    · exact s.memberFill_moves
  · exact closed s
  · exact closed s
  · exact moves_of_blocks rfl

theorem State.memberFinish_moves : s.Moves s.memberFinish := by
  have closed : s.Moves s.framingFault.sendTrailer := (moves_of_blocks (s.count_blocks .framingFault)).trans (sendTrailer_moves _)
  unfold State.memberFinish
  split
  · dsimp only; split
    · exact s.memberFill_moves.trans (sendTrailer_moves _)
    · exact s.memberFill_moves
  · exact closed
  · exact closed
  · exact .refl

theorem State.carrySlot_moves : s.Moves s.carrySlot := by
  unfold State.carrySlot
  split
  · dsimp only
    split
    · exact Moves.after (handleSlot_moves _ _ _) rfl
    · exact Moves.after ((moves_of_blocks (carryCell_blocks _ _)).trans (handleSlot_moves _ _ _)) rfl
  · exact .refl

theorem State.carryMessage_moves : s.Moves s.carryMessage := by
  unfold State.carryMessage
  split
  · split
    · exact .refl
    · next m rest _ =>
      have h : State.Moves { s with tx := { s.tx with carryMessages := rest } } _ := (Move.message m).moves
      exact h.after rfl
  · exact .refl

theorem State.closeEmission_moves : s.Moves s.closeEmission := by
  have slots (n : Nat) : s.Moves (s.carrySlots n) :=
    State.carrySlots_keeps (P := s.Moves) (fun t h => h.trans t.settle_moves) (fun t h => h.trans t.carrySlot_moves) _ .refl
  have messages (t : State) (n : Nat) : t.Moves (t.carryMessages n) :=
    State.carryMessages_keeps (P := t.Moves) (fun t h => h.trans t.settle_moves) (fun t h => h.trans t.carryMessage_moves) _ .refl
  unfold State.closeEmission
  split
  · dsimp only; split
    · exact ((slots _).trans (messages _ _)).trans (sendTrailer_moves _)
    · exact (slots _).trans (messages _ _)
  · exact .refl

end Rounds

/-! ### Headers and emissions -/

section Headers

variable {s : State}

theorem State.memberStart_moves (h : s.tracker.tracking = .inRound) (first : Bool) (n : RoundNo) (p : RoundParams)
    (item : TrunkItem) : s.Moves (s.memberStart first n p item) := by
  refine (Move.tracker (.started n p h)).moves.trans (.tail (moves_of_blocks ?_) (.roundStart first))
  simp [State.blocks]

theorem State.memberHeader_moves (h : s.tracker.tracking = .inRound) (w0 w1 w2 : RxWord) : s.Moves (s.memberHeader w0 w1 w2) := by
  unfold State.memberHeader
  dsimp only
  (repeat' split)
  · exact memberStart_moves h _ _ _ _
  · exact (moves_of_blocks (s.count_blocks .roundSkip)).trans (memberStart_moves (by simpa using h) _ _ _ _)
  · exact (moves_of_blocks (s.count_blocks .headerCheckFail)).trans (memberStart_moves (by simpa using h) _ _ _ _)

theorem State.masterHeader_moves (h : s.tracker.tracking = .inRound) (w0 w1 w2 : RxWord) : s.Moves (s.masterHeader w0 w1 w2) := by
  refine (Move.tracker (.heard h)).moves.trans (moves_of_blocks ?_)
  unfold State.masterHeader
  dsimp only
  (repeat' split) <;> rfl

theorem State.enterInRound_moves (h : s.tracker.tracking = .enumerating) : s.Moves s.enterInRound :=
  (Move.tracker (.joined h)).moves.trans (moves_of_blocks rfl)

theorem State.seePeriod_moves (w0 w1 w2 : RxWord) (s : State) : s.Moves (s.seePeriod w0 w1 w2) := by
  unfold State.seePeriod
  split
  · exact (Move.tracker (.configured s.tracker.round _)).moves
  · exact .refl

theorem State.seePeriod_tracking (w0 w1 w2 : RxWord) (s : State) : (s.seePeriod w0 w1 w2).tracker.tracking = s.tracker.tracking := by
  unfold State.seePeriod; split <;> rfl

theorem State.enumeratingHeader_moves (h : s.tracker.tracking = .enumerating) (w0 w1 w2 : RxWord) :
    s.Moves (s.enumeratingHeader w0 w1 w2) := by
  unfold State.enumeratingHeader
  (repeat' split)
  · exact moves_of_blocks (s.count_blocks _)
  · exact (enterInRound_moves h).trans (memberStart_moves rfl _ _ _ _)
  · exact (seePeriod_moves w0 w1 w2 s).trans (originateRestart_moves (by rw [seePeriod_tracking, h]; decide))

theorem State.headerWords_moves (w0 w1 w2 : RxWord) (s : State) : s.Moves (s.headerWords w0 w1 w2) := by
  unfold State.headerWords
  split
  · exact .refl
  · next h => exact (seePeriod_moves w0 w1 w2 s).trans (originateRestart_moves (by rw [seePeriod_tracking, h]; decide))
  · next h => exact enumeratingHeader_moves h w0 w1 w2
  · next h =>
    split
    · exact masterHeader_moves h w0 w1 w2
    · exact memberHeader_moves h w0 w1 w2
  · exact seePeriod_moves w0 w1 w2 s
  · exact seePeriod_moves w0 w1 w2 s

theorem State.headerMarker_moves (s : State) : s.Moves s.headerMarker := by
  unfold State.headerMarker
  split
  · next h =>
    refine (Move.tracker (.heard (by simpa [State.inRound] using h))).moves.trans ?_
    dsimp only; split
    · exact (moves_of_blocks (masterFinish_blocks _))
    · exact memberFinish_moves _
  · exact .refl

theorem State.emitHeader_moves (first : Bool) (n : RoundNo) (cells : List RxCell) (msgs : List RxMessage) (s : State) :
    s.Moves (s.emitHeader first n cells msgs) := by
  refine (Move.tracker (.configured n s.tracker.params)).moves.trans (.tail (moves_of_blocks ?_) (.roundStart first))
  simp [State.blocks]

theorem State.emission_moves (s : State) : s.Moves s.emission := by
  have next (t : State) : t.Moves t.emitNext := by
    unfold State.emitNext
    dsimp only; split
    · exact emitHeader_moves _ _ _ _ _
    · exact (moves_of_blocks t.lateReturn_blocks).trans (emitHeader_moves _ _ _ _ _)
  unfold State.emission
  split
  · have closed : s.Moves s.closeEmission.settle := s.closeEmission_moves.trans (settle_moves _)
    dsimp only; split
    · exact closed.trans (next _)
    · exact closed
  · exact .refl

end Headers

/-! ### Elections -/

section Elections

variable {s : State}

theorem State.restartWords_moves (w0 w1 w2 : RxWord) (s : State) : s.Moves (s.restartWords w0 w1 w2) := by
  have joins (h : s.tracker.tracking ≠ .down) : s.Moves (s.restartJoins w0 w1 w2) := by
    unfold State.restartJoins
    (repeat' split)
    · exact (moves_of_blocks (s.count_blocks .enumCheckFail)).trans (originateRestart_moves (by simpa using h))
    · exact .refl
    · exact (moves_of_blocks (s.emit_blocks _)).trans (enterEnumerating_moves (by simpa using h))
  unfold State.restartWords
  split <;> rename_i h
  · exact .refl
  · exact joins (by simp [h])
  · unfold State.restartRenews
    (repeat' split)
    · exact (moves_of_blocks (s.count_blocks .enumCheckFail)).trans (originateRestart_moves (by simp [h]))
    · exact .refl
    · exact (moves_of_blocks (s.emit_blocks _)).trans (beginAttempt_moves (by simp [h]))
  · exact joins (by simp [h])
  · exact enterEnumerating_moves (by simp [h])
  · exact enterEnumerating_moves (by simp [h])

theorem State.giveUpMastership_moves (s : State) : s.Moves s.giveUpMastership := by
  unfold State.giveUpMastership
  split
  · next h => exact (Move.tracker (.gaveUp h)).moves
  · exact .refl

theorem State.giveUpMastership_tracking (s : State) : s.giveUpMastership.tracker.tracking = s.tracker.tracking := by
  unfold State.giveUpMastership; split <;> rfl

theorem State.claimFrame_moves (h : s.tracker.tracking = .enumerating) (w0 w1 w2 w3 : RxWord) :
    s.Moves (s.claimFrame w0 w1 w2 w3) := by
  unfold State.claimFrame
  (repeat' split)
  · exact moves_of_blocks (s.emit_blocks _)
  · next hrank _ _ => exact (Move.tracker (.won (s.tracker.callNo + 1) h hrank)).moves.trans (moves_of_blocks (emit_blocks _ _))
  · exact .refl
  · exact (moves_of_blocks (s.emit_blocks _)).trans (giveUpMastership_moves _)
  · exact .refl

theorem State.takeNumber_moves (h : s.tracker.tracking = .enumerating) (w0 w1 w2 w3 : RxWord) :
    s.Moves (s.takeNumber w0 w1 w2 w3) := by
  unfold State.takeNumber
  split
  · exact (Move.tracker (.numbered (frameNextId w0) h (by omega))).moves.trans (moves_of_blocks (emit_blocks _ _))
  · exact (moves_of_blocks (s.emit_blocks _)).trans ((Move.tracker (.overflowed (by simpa using h))).moves.trans (moves_of_blocks (raise_blocks _ _)))

theorem State.rollCallComplete_moves (h : s.tracker.tracking = .enumerating) (n : Nat) : s.Moves (s.rollCallComplete n) := by
  unfold State.rollCallComplete
  refine (Move.tracker (.configured 0 (effectiveParams s.config n))).moves.trans ?_
  dsimp only
  exact Moves.after ((enterInRound_moves (by exact h)).trans (emitHeader_moves _ _ _ _ _)) rfl

theorem State.rollCallFrame_moves (h : s.tracker.tracking = .enumerating) (w0 w1 w2 w3 : RxWord) :
    s.Moves (s.rollCallFrame w0 w1 w2 w3) := by
  unfold State.rollCallFrame
  (repeat' split)
  · exact rollCallComplete_moves h _
  · exact .refl
  · exact s.giveUpMastership_moves.trans (takeNumber_moves (by rw [giveUpMastership_tracking, h]) _ _ _ _)
  · exact .refl
  · exact takeNumber_moves h _ _ _ _

theorem State.enumWords_moves (w0 w1 w2 w3 : RxWord) (s : State) : s.Moves (s.enumWords w0 w1 w2 w3) := by
  unfold State.enumWords
  split <;> rename_i h
  · exact .refl
  · exact originateRestart_moves (by simp [h])
  · split
    · unfold State.enumFrameTaken
      split
      · exact claimFrame_moves h _ _ _ _
      · exact rollCallFrame_moves h _ _ _ _
    · exact moves_of_blocks (s.count_blocks _)
  · unfold State.enumFramePassed
    (repeat' split)
    · exact moves_of_blocks (s.count_blocks _)
    · exact .refl
    · exact moves_of_blocks (s.emit_blocks _)
  · exact .refl
  · exact .refl

end Elections

/-! ### Structures and symbols at the IN port -/

section Arrivals

variable (s : State)

theorem State.headerArrives_moves (w0 w1 w2 : RxWord) : s.Moves (s.headerArrives w0 w1 w2) :=
  (moves_of_blocks (s.passOn_blocks _)).trans ((headerMarker_moves _).trans ((settle_moves _).trans (headerWords_moves w0 w1 w2 _)))

theorem State.restartArrives_moves (w0 w1 w2 : RxWord) : s.Moves (s.restartArrives w0 w1 w2) :=
  (moves_of_blocks (s.passOn_blocks _)).trans ((moves_of_blocks (markerInside_blocks _)).trans (restartWords_moves w0 w1 w2 _))

theorem State.enumArrives_moves (w0 w1 w2 w3 : RxWord) : s.Moves (s.enumArrives w0 w1 w2 w3) :=
  (moves_of_blocks (s.passOn_blocks _)).trans ((moves_of_blocks (markerInside_blocks _)).trans (enumWords_moves w0 w1 w2 w3 _))

theorem State.cellArrives_moves (c : RxCell) : s.Moves (s.cellArrives c) := by
  unfold State.cellArrives
  (repeat' split)
  · exact moves_of_blocks (s.masterCell_blocks c)
  · exact s.memberSlot_moves c
  · exact moves_of_blocks (s.passOn_blocks _)

theorem State.messageArrives_moves (m : RxMessage) : s.Moves (s.messageArrives m) := by
  unfold State.messageArrives
  (repeat' split)
  · exact moves_of_blocks (s.masterMessage_blocks m)
  · exact s.memberMessage_moves m
  · exact moves_of_blocks (s.passOn_blocks _)

theorem State.trailerArrives_moves (w : RxWord) : s.Moves (s.trailerArrives w) := by
  unfold State.trailerArrives
  (repeat' split)
  · exact moves_of_blocks (s.masterTrailer_blocks w)
  · exact s.memberTrailer_moves w
  · exact moves_of_blocks (s.passOn_blocks _)

theorem State.collected_moves {t : State} (h : s.collected.Moves t) : s.Moves t :=
  h.after rfl

theorem State.push_moves (w : RxWord) : s.Moves (s.push w) := moves_of_blocks rfl

theorem State.roundWord_moves (w : RxWord) : s.Moves (s.roundWord w) := by
  unfold State.roundWord
  split
  · exact .refl
  · split
    · unfold State.slotWord
      split
      · exact s.collected_moves (cellArrives_moves _ _)
      · exact s.push_moves w
    · unfold State.openWord
      dsimp only; split
      · exact moves_of_blocks rfl
      · split
        · exact s.collected_moves (messageArrives_moves _ _)
        · exact s.push_moves w
    · split
      · exact .refl
      · exact moves_of_blocks s.outsideData_blocks
    · exact .refl
    · exact .refl

theorem State.trailerWord_moves (w : RxWord) : s.Moves (s.trailerWord w) := by
  unfold State.trailerWord
  (repeat' split)
  · exact moves_of_blocks (s.masterTrailer_blocks w)
  · exact s.memberTrailer_moves w
  · exact .refl

theorem State.rxData_moves (w : RxWord) : s.Moves (s.rxData w) := by
  unfold State.rxData
  split
  · exact s.roundWord_moves w
  · exact s.collected_moves (trailerWord_moves _ _)
  · exact s.collected_moves (headerWords_moves _ _ _ _)
  · exact s.collected_moves (restartWords_moves _ _ _ _)
  · exact s.collected_moves (enumWords_moves _ _ _ _ _)
  · exact s.push_moves w

theorem State.trailerMarker_moves : s.Moves s.trailerMarker := by
  unfold State.trailerMarker
  (repeat' split)
  · exact moves_of_blocks rfl
  · exact s.memberFill_moves
  · exact .refl

theorem State.rxMarker_moves (m : Marker) : s.Moves (s.rxMarker m) := by
  have collecting (t : State) (c : Collect) : t.Moves (t.collecting c) := moves_of_blocks rfl
  unfold State.rxMarker
  dsimp only
  cases m with
  | roundHeader => exact Moves.after (((headerMarker_moves _).trans (settle_moves _)).trans (collecting _ _)) rfl
  | trailer => exact Moves.after ((trailerMarker_moves _).trans (collecting _ _)) rfl
  | restart => exact Moves.after ((moves_of_blocks (markerInside_blocks _)).trans (collecting _ _)) rfl
  | enumeration => exact Moves.after ((moves_of_blocks (markerInside_blocks _)).trans (collecting _ _)) rfl

theorem State.symbolArrives_moves (sym : Symbol) : s.Moves (s.symbolArrives sym) := by
  unfold State.symbolArrives
  split
  · exact .refl
  · exact moves_of_blocks rfl
  · refine (moves_of_blocks (s.errorCount_blocks sym)).trans ((moves_of_blocks ((s.errorCount sym).relay_blocks sym)).trans ?_)
    unfold State.handSymbol
    dsimp only
    split
    · exact .refl
    · exact rxData_moves _ _
    · exact rxMarker_moves _ _
    · exact Moves.after (rxData_moves _ _) rfl

theorem State.signalOn_moves : s.Moves s.signalOn := by
  unfold State.signalOn
  split
  · next h =>
    exact (Move.link .training (by simp [h]) (by decide)).moves.trans (moves_of_blocks rfl)
  · exact .refl

theorem State.signalLost_moves : s.Moves s.signalLost := by
  unfold State.signalLost
  split
  · exact .refl
  · next h => exact (Move.link .down (by simp [h]) (by decide)).moves
  · exact linkLost_moves

end Arrivals

/-! ### Every step -/

/-- A command that names an internal step runs that step. -/
theorem exec_of_workOf {i : Instr} {w : Work} (h : workOf i = some w) (s : State) : exec i s = .next (s.runWork w).finish := by
  cases i <;> cases h <;> rfl

theorem State.unlessReset_moves {f : State → State} (hf : ∀ s : State, s.Moves (f s)) (s : State) : s.Moves (s.unlessReset f) := by
  unfold State.unlessReset
  split
  · exact .refl
  · exact hf s

theorem State.giveFrame_moves (f : List Half) (s : State) : s.Moves (s.giveFrame f) := by
  unfold State.giveFrame
  split
  · next h => exact (State.Move.give f (Bool.and_eq_true_iff.1 h).1).moves
  · exact State.moves_of_blocks rfl

theorem State.takeStart_moves (s : State) : s.Moves s.takeStart := by
  unfold State.takeStart
  (repeat' split)
  · exact .refl
  · exact .refl
  · exact (State.Move.take _).moves

/-- What an arrival does before it ends, as a function of the state. -/
theorem exec_arrival_moves {i : Instr} (h : workOf i = none) (s : State) : ∃ t, exec i s = .next t.finish ∧ s.Moves t := by
  cases i <;> cases h <;> refine ⟨_, rfl, ?_⟩
  case hardReset mrank => exact (State.Move.hardReset mrank).moves
  case resetRelease => exact State.moves_of_blocks rfl
  case outPortUp =>
    show s.Moves s.outTrained
    unfold State.outTrained; split <;> exact State.moves_of_blocks rfl
  case signalDetected => exact State.unlessReset_moves State.signalOn_moves s
  case symbolReceived sym => exact State.unlessReset_moves (State.symbolArrives_moves · sym) s
  case lossOfSignal => exact State.unlessReset_moves State.signalLost_moves s
  case tick => exact State.unlessReset_moves (fun _ => (State.Move.tracker .tick).moves) s
  case restartMarkerArrival w0 w1 w2 => exact State.unlessReset_moves (State.restartArrives_moves · w0 w1 w2) s
  case claimFrameArrival w0 w1 w2 w3 => exact State.unlessReset_moves (State.enumArrives_moves · w0 w1 w2 w3) s
  case rollCallArrival w0 w1 w2 w3 => exact State.unlessReset_moves (State.enumArrives_moves · w0 w1 w2 w3) s
  case roundHeaderArrival w0 w1 w2 => exact State.unlessReset_moves (State.headerArrives_moves · w0 w1 w2) s
  case roundEmission => exact State.unlessReset_moves State.emission_moves s
  case returningHeaderArrival w0 w1 w2 => exact State.unlessReset_moves (State.headerArrives_moves · w0 w1 w2) s
  case returningCellArrival c => exact State.unlessReset_moves (State.cellArrives_moves · c) s
  case returningMessageArrival m => exact State.unlessReset_moves (State.messageArrives_moves · m) s
  case returningTrailerArrival w => exact State.unlessReset_moves (State.trailerArrives_moves · w) s
  case slotEvent c =>
    refine State.unlessReset_moves (fun s => ?_) s
    split
    · exact s.carrySlot_moves
    · exact s.cellArrives_moves c
  case messageArrival m =>
    refine State.unlessReset_moves (fun s => ?_) s
    split
    · exact s.carryMessage_moves
    · exact s.messageArrives_moves m
  case trailerArrival w =>
    refine State.unlessReset_moves (fun s => ?_) s
    split
    · exact s.closeEmission_moves
    · exact s.trailerArrives_moves w
  case insertRecord f => exact State.giveFrame_moves f s
  case localRequest f => exact State.giveFrame_moves f s
  case giveFrameUnknown f => exact State.giveFrame_moves f s
  case giveFrameAbort => exact .refl
  case takeFrameStart => exact State.takeStart_moves s
  case takeFrameEnd => exact State.Move.takeEnd.moves

/-- Every step is made of elementary moves. -/
theorem step_moves {s t : State} (h : step s = .next t) : s.Moves t := by
  unfold step at h
  split at h
  · cases h; exact .refl
  · next c rest _ =>
    have hrest : s.Moves { s with pending := rest } := State.moves_of_blocks rfl
    refine hrest.trans ?_
    cases hw : workOf c with
    | some w =>
      rw [exec_of_workOf hw] at h
      cases h
      exact (State.runWork_moves _ w).trans (State.finish_moves _)
    | none =>
      obtain ⟨u, hu, hmoves⟩ := exec_arrival_moves hw { s with pending := rest }
      rw [hu] at h
      cases h
      exact hmoves.trans (State.finish_moves _)

/-- An invariant that every elementary move keeps is kept by every step. -/
theorem step_keeps {P : State → Prop} (hP : ∀ {s t : State}, s.Move t → P s → P t) {s t : State} (hs : P s)
    (h : step s = .next t) : P t :=
  (step_moves h).keeps hP hs

end Sys2Proof.Machine
end

section
/-!
The tracker stays legal, and DOWN exactly while the input link is not UP (R1, R4, R20 to R22).
-/

namespace Sys2Proof.Machine

open Sys2Proof

section Tracker

variable {t u : Tracker}

theorem Tracker.Legal.tick (h : t.Legal) : t.tick.Legal := by
  unfold Tracker.tick
  split <;> rename_i htr
  · exact { h with missed := fun hne => absurd htr hne, missedRange := Nat.min_le_left _ _ }
  · exact { h with seek := fun hne => absurd htr hne, seekRange := Nat.min_le_left _ _ }
  · exact { h with enumeration := fun hne => absurd htr hne, enumerationRange := Nat.min_le_left _ _ }
  · exact { h with retry := fun hne => absurd htr hne, retryRange := Nat.min_le_left _ _ }
  · exact h
  · exact h

theorem Tracker.tick_tracking (t : Tracker) : t.tick.tracking = t.tracking := by
  unfold Tracker.tick; split <;> rfl

/-- Entering ENUMERATING from a state with no attempt that failed too often, or from ISOLATED with the count at 0 (R25). -/
theorem Tracker.Legal.attempt (h : t.Legal) : (t.attempt (if t.tracking = .isolated then 0 else t.failed)).Legal where
  missed _ := rfl
  missedRange := Nat.zero_le _
  seek _ := rfl
  seekRange := Nat.zero_le _
  enumeration _ := rfl
  enumerationRange := Nat.zero_le _
  retry _ := rfl
  retryRange := Nat.zero_le _
  phase := by simp [Tracker.attempt]
  failed := by
    have hfew := h.failed.2
    simp only [Tracker.attempt]
    split
    · simp
    · next hne => exact ⟨Nat.le_succ_of_le (hfew hne), fun _ => hfew hne⟩
  idRange := by simp [Tracker.attempt]
  noId _ := rfl
  master := by simp [Tracker.attempt]

/-- Entering DOWN (R22). -/
theorem Tracker.leave_legal (t : Tracker) : t.leave.Legal where
  missed _ := rfl
  missedRange := Nat.zero_le _
  seek _ := rfl
  seekRange := Nat.zero_le _
  enumeration _ := rfl
  enumerationRange := Nat.zero_le _
  retry _ := rfl
  retryRange := Nat.zero_le _
  phase := by simp [Tracker.leave]
  failed := by simp [Tracker.leave]
  idRange := by simp [Tracker.leave]
  noId _ := rfl
  master := by simp [Tracker.leave]

/-- Entering SEEKING from DOWN (R23). -/
theorem Tracker.Legal.seeking (h : t.Legal) (hdown : t.tracking = .down) :
    ({ t with tracking := .seeking, seekTimer := 0 } : Tracker).Legal :=
  { h with
    missed := fun _ => h.missed (by simp [hdown])
    seek := fun _ => rfl
    seekRange := Nat.zero_le _
    enumeration := fun _ => h.enumeration (by simp [hdown])
    retry := fun _ => h.retry (by simp [hdown])
    phase := by simpa [hdown] using h.phase
    failed := ⟨h.failed.1, fun _ => h.failed.2 (by simp [hdown])⟩
    noId := fun _ => h.noId (.inl hdown) }

/-- Every way in which the tracker moves while the link stays as it is keeps it legal. -/
theorem Tracker.Move.legal (hmove : t.Move u) (h : t.Legal) : u.Legal := by
  cases hmove
  case tick => exact h.tick
  case heard => exact { h with missed := fun _ => rfl, missedRange := Nat.zero_le _ }
  case started => exact { h with missed := fun _ => rfl, missedRange := Nat.zero_le _ }
  case configured => exact { h with }
  case joined htr =>
    exact { h with
      missed := fun _ => rfl
      missedRange := Nat.zero_le _
      seek := fun _ => h.seek (by simp [htr])
      enumeration := fun _ => rfl
      enumerationRange := Nat.zero_le _
      retry := fun _ => h.retry (by simp [htr])
      phase := by simp
      failed := by simp
      noId := by simp
      master := fun hm => h.master (.inl (by simpa using hm)) }
  case attempted htr =>
    exact { h with
      enumeration := fun _ => rfl
      enumerationRange := Nat.zero_le _
      phase := by simp [htr]
      idRange := by simp
      noId := fun _ => rfl
      master := by simp }
  case entered => exact h.attempt
  case failedOnce htr hlt => exact { h with failed := ⟨by simp only; omega, fun _ => Nat.le_of_lt_succ hlt⟩ }
  case isolated htr =>
    have hfew := h.failed.2 (by simp [htr])
    exact { h with
      missed := fun _ => h.missed (by simp [htr])
      seek := fun _ => h.seek (by simp [htr])
      enumeration := fun _ => rfl
      enumerationRange := Nat.zero_le _
      retry := fun _ => rfl
      retryRange := Nat.zero_le _
      phase := by simp
      failed := ⟨by simp only; omega, by simp⟩
      idRange := by simp
      noId := fun _ => rfl
      master := fun hm => h.master (.inl (by simpa using hm)) }
  case won call htr hrank =>
    exact { h with phase := by simp [htr], idRange := by simp, noId := by simp [htr], master := fun _ => hrank }
  case gaveUp hphase =>
    exact { h with
      phase := by simpa [hphase] using h.phase
      idRange := by simp
      noId := fun _ => rfl
      master := by simp }
  case numbered id htr hid =>
    exact { h with
      phase := by simp [htr]
      idRange := by simpa using hid
      noId := by simp [htr]
      master := by simp }
  case overflowed htr =>
    exact { h with
      missed := fun _ => h.missed (by simp [htr])
      seek := fun _ => h.seek (by simp [htr])
      enumeration := fun _ => rfl
      enumerationRange := Nat.zero_le _
      retry := fun _ => h.retry (by simp [htr])
      phase := by simp
      failed := by simp
      idRange := by simp
      noId := fun _ => rfl
      master := by simp }

/-- While the link stays as it is the tracker neither enters nor leaves DOWN. -/
theorem Tracker.Move.down_iff (hmove : t.Move u) : u.tracking = .down ↔ t.tracking = .down := by
  cases hmove
  case tick => rw [Tracker.tick_tracking]
  case entered hne => simp [Tracker.attempt, hne]
  all_goals simp_all

end Tracker

theorem State.planRestart_keeps (s : State) : s.planRestart.inPort = s.inPort ∧ s.planRestart.tracker = s.tracker := by
  unfold State.planRestart; dsimp only; split <;> exact ⟨rfl, rfl⟩

theorem State.applyCommit_keeps (s : State) : s.applyCommit.inPort = s.inPort ∧ s.applyCommit.tracker = s.tracker := by
  unfold State.applyCommit; dsimp only; split <;> exact ⟨rfl, rfl⟩

/-- Only a few moves reach the tracker or the link; all others leave both as they are. -/
theorem State.Move.trackerLegal {s t : State} (hmove : s.Move t) (h : s.TrackerLegal) : t.TrackerLegal := by
  have kept {u : State} (hlink : u.inPort.link = s.inPort.link) (htr : u.tracker = s.tracker) : u.TrackerLegal := by
    rwa [State.TrackerLegal, hlink, htr]
  obtain ⟨hdown, hlegal⟩ := h
  cases hmove
  case same hb => exact kept (congrArg Blocks.link hb) (congrArg Blocks.tracker hb)
  case tracker tr hm => exact ⟨hm.down_iff.trans hdown, hm.legal hlegal⟩
  case link l hnot hl => exact ⟨⟨fun _ => hl, fun _ => hdown.2 hnot⟩, hlegal⟩
  case linkUp hl => exact ⟨by simp [State.linkUp], hlegal.seeking (hdown.2 (by simp [hl]))⟩
  case linkDown => exact ⟨by simp [Tracker.leave], Tracker.leave_legal _⟩
  case hardReset mrank =>
    exact ⟨by simp [State.hardReset, State.reset], { Tracker.leave_legal { s.tracker with rank := mrank } with }⟩
  case planRestart => exact kept (by simp [planRestart_keeps]) (by simp [planRestart_keeps])
  case slot a c => exact kept (by simp) (by simp)
  case message m => exact kept (by simp) (by simp)
  case commit => exact kept (by simp [applyCommit_keeps]) (by simp [applyCommit_keeps])
  case answer row => exact kept (by simp) (by simp)
  case apply row => exact kept (by rw [(State.applyHead_keeps row s).2]) (State.applyHead_keeps row s).1
  case timeOut tag => exact kept (by simp) (by simp)
  case give f _ => exact kept (by simp) (by simp)
  case take k => exact kept (by simp) (by simp)
  case takeEnd => exact kept (by simp) (by simp)
  all_goals exact kept rfl rfl

/-- Settles O59: the tracker and the link move together in a few ways only, each of which keeps the tracker legal. -/
theorem trackerLegalKept : Obligations.TrackerLegalKept := fun _ _ hs hstep =>
  step_keeps State.Move.trackerLegal hs hstep

end Sys2Proof.Machine
end

section
/-!
The plan tables stay legal and the round plan resolved (R39, R40, R46).
-/

namespace Sys2Proof.Machine

open Sys2Proof

/-! ### The round plan (R42) -/

theorem Bank.resolve_ne_follow {b : Bank} (h : b.dflt ≠ .follow) (e : PlanEntry) : b.resolve e ≠ .follow := by
  unfold Bank.resolve
  split
  · exact h
  · next hne => exact hne

theorem PlanStore.build_resolved {p : PlanStore} (h : p.Legal) (n : RoundNo) (slotCount : Nat) : (p.build n slotCount).Resolved := by
  unfold PlanStore.build RoundPlan.Resolved
  split <;> intro e he
  · obtain ⟨x, -, rfl⟩ := List.mem_map.1 he
    exact Bank.resolve_ne_follow h.defaultA x
  · obtain ⟨x, -, rfl⟩ := List.mem_map.1 he
    exact Bank.resolve_ne_follow h.defaultB x
  · rw [(List.mem_replicate.1 he).2]; decide

theorem RoundPlan.allPass_resolved (p : RoundPlan) : p.allPass.Resolved := by
  intro e he
  rw [(List.mem_replicate.1 he).2]; decide

/-! ### Edits and commits (R46, R51) -/

theorem PlanStore.Legal.applyEdit {p : PlanStore} (h : p.Legal) {e : Edit} (he : e.Legal) : (p.applyEdit e).Legal := by
  cases e with
  | slot bank k e => cases bank <;> exact { h with }
  | bankDefault bank e =>
    cases bank with
    | a => exact { h with defaultA := he }
    | b => exact { h with defaultB := he }
  | rotation r => exact { h with rotation := he }

theorem PlanStore.Legal.applyEdits {p : PlanStore} (h : p.Legal) {es : List Edit} (hes : ∀ e ∈ es, e.Legal) :
    (es.foldl PlanStore.applyEdit p).Legal := by
  induction es generalizing p with
  | nil => exact h
  | cons e es ih =>
    exact ih (h.applyEdit (hes e List.mem_cons_self)) fun x hx => hes x (List.mem_cons_of_mem e hx)

theorem PlanStore.Legal.committed {p : PlanStore} (h : p.Legal) : p.committed.Legal :=
  { h.applyEdits h.edits with edits := by simp [PlanStore.committed] }

/-- An edit request reaches the edit list alone. -/
theorem PlanStore.takeEdit_frame (p : PlanStore) (e : Edit) : (p.takeEdit e).2 = { p with edits := (p.takeEdit e).2.edits } := by
  unfold PlanStore.takeEdit; (repeat' split) <;> rfl

theorem PlanStore.Legal.takeEdit {p : PlanStore} (h : p.Legal) {e : Edit} (he : e.Legal) : (p.takeEdit e).2.Legal := by
  rw [p.takeEdit_frame]
  refine { h with edits := fun x hx => ?_ }
  obtain heq | heq | ⟨heq, -, -⟩ := p.takeEdit_edits_cases e <;> simp only [heq] at hx
  · exact h.edits x hx
  · obtain ⟨y, hy, rfl⟩ := List.mem_map.1 hx
    split
    · exact he
    · exact h.edits y hy
  · obtain hx | hx := List.mem_append.1 hx
    · exact h.edits x hx
    · rwa [List.mem_singleton.1 hx]

theorem bankEdit_legal {bk : BankId} {i : Nat} {w : Word} {e : Edit} (h : bankEdit bk i w = some e) : e.Legal := by
  unfold bankEdit at h
  (repeat' split at h) <;> cases h
  · trivial
  · next hne => exact hne

theorem rotationOf_legal {w : Word} {r : Rotation} (h : rotationOf w = some r) : r.Legal := by
  unfold rotationOf at h
  dsimp only at h
  split at h <;> cases h
  next hr =>
    simp only [Bool.and_eq_true, decide_eq_true_eq] at hr
    exact hr.1

/-- The word of a write makes a legal edit, or none. -/
theorem PlanStore.Legal.writeWord {p : PlanStore} (h : p.Legal) (space i : Nat) (w : Word) : (p.writeWord space i w).2.Legal := by
  have taken (o : Option Edit) (ho : ∀ e, o = some e → e.Legal) :
      (match o with | none => (Status.badRequest, p) | some e => p.takeEdit e).2.Legal := by
    cases o with
    | none => exact h
    | some e => exact h.takeEdit (ho e rfl)
  unfold PlanStore.writeWord
  refine taken _ fun e he => ?_
  (repeat' split at he)
  · exact bankEdit_legal he
  · exact bankEdit_legal he
  · obtain ⟨r, hr, rfl⟩ := Option.map_eq_some_iff.1 he
    exact rotationOf_legal hr

/-! ### What the Responder applies -/

/-- The plan tables of a Plan Store are legal and its round plan is resolved. -/
def PlanStore.Sound (p : PlanStore) : Prop := p.Legal ∧ ∀ q, p.roundPlan = some q → q.Resolved

theorem State.planLegal_iff (s : State) : s.PlanLegal ↔ s.plan.Sound := Iff.rfl

theorem PlanStore.writeWord_roundPlan (p : PlanStore) (space i : Nat) (w : Word) :
    (p.writeWord space i w).2.roundPlan = p.roundPlan := by
  unfold PlanStore.writeWord; dsimp only; split
  · rfl
  · rw [PlanStore.takeEdit_frame]

theorem PlanStore.Sound.writeWord {p : PlanStore} (h : p.Sound) (space i : Nat) (w : Word) : (p.writeWord space i w).2.Sound :=
  ⟨h.1.writeWord space i w, by rw [p.writeWord_roundPlan]; exact h.2⟩

theorem State.reminderEnds_frame (s : State) : s.reminderEnds = { s with events := s.reminderEnds.events } := by
  unfold State.reminderEnds; split <;> rfl

/-- A NODE_CONFIG word reaches the configuration and the events alone. -/
theorem State.writeConfigWord_frame (i : Nat) (w : Word) (s : State) :
    (s.writeConfigWord i w).2 =
      { s with config := (s.writeConfigWord i w).2.config, events := (s.writeConfigWord i w).2.events } := by
  unfold State.writeConfigWord
  (repeat' split) <;> first | rfl | (dsimp only; rw [State.reminderEnds_frame])

theorem State.writeWord_sound {s : State} (h : s.plan.Sound) (space i : Nat) (w : Word) : (s.writeWord space i w).2.plan.Sound := by
  unfold State.writeWord
  split
  · rw [State.writeConfigWord_frame]; exact h
  · exact h
  · exact h
  · exact h.writeWord space i w

theorem State.writeWords_sound (ws : List Word) (space i : Nat) {s : State} (h : s.plan.Sound) :
    (s.writeWords space i ws).2.2.plan.Sound := by
  induction ws generalizing s i with
  | nil => exact h
  | cons w ws ih =>
    unfold State.writeWords
    dsimp only
    split
    · exact ih (i + 1) (State.writeWord_sound h space i w)
    · exact State.writeWord_sound h space i w

theorem State.applyWrite_sound (body : List Word) {s : State} (h : s.plan.Sound) : (s.applyWrite body).2.2.2.2.plan.Sound := by
  unfold State.applyWrite
  split
  · exact h
  · exact State.writeWords_sound _ _ _ h

theorem State.commitPlan_sound (target : RoundNo) {s : State} (h : s.plan.Sound) : (s.commitPlan target).2.2.plan.Sound := by
  unfold State.commitPlan
  dsimp only
  (repeat' split)
  · exact h
  · exact h
  · exact ⟨{ h.1 with }, h.2⟩
  · exact ⟨{ h.1 with }, h.2⟩

theorem State.cancelCommit_sound {s : State} (h : s.plan.Sound) : s.cancelCommit.2.2.plan.Sound := by
  unfold State.cancelCommit
  dsimp only
  split
  · exact h
  · exact ⟨{ h.1 with }, h.2⟩
  · exact ⟨{ h.1 with }, h.2⟩

theorem State.contextCommand_plan (n : Nat) (f : Context → Status × Context) (s : State) :
    (s.contextCommand n f).2.2.plan = s.plan := by
  unfold State.contextCommand; dsimp only; (repeat' split) <;> rfl

/-- Of the rows of the work queue the commit commands and the writes reach the Plan Store. -/
theorem State.applyBy_sound (row : WorkRow) (body : List Word) {s : State} (h : s.plan.Sound) :
    (s.applyBy row body).2.2.2.2.plan.Sound := by
  cases row <;> simp only [State.applyBy, plainly]
  case commitPlan => exact State.commitPlan_sound _ h
  case cancelCommit => exact State.cancelCommit_sound h
  case startContext => rwa [State.contextCommand_plan]
  case stopContext => rwa [State.contextCommand_plan]
  case haltContext => rwa [State.contextCommand_plan]
  case flushDropQueue => exact h
  case clearEvents => rwa [State.clearEvents, State.reminderEnds_plan]
  case clearCountersNode => split <;> exact h
  case clearCountersContext => split <;> exact h
  case clearCountersAll => exact h
  case takeHolder => unfold State.takeHolder; split <;> exact h
  case dropHolder => unfold State.dropHolder; split <;> exact h
  case restartRing => exact h
  case nodeReset => exact h
  all_goals exact State.applyWrite_sound body h

theorem State.report_plan (e : WorkEntry) (a : Applied) : (State.report e a).plan = a.2.2.2.2.plan := by
  obtain ⟨st, b, i, r, t⟩ := a
  unfold State.report State.addRelease
  dsimp only
  (repeat' split) <;> simp

theorem State.applyHead_sound (row : WorkRow) {s : State} (h : s.plan.Sound) : (s.applyHead row).plan.Sound := by
  unfold State.applyHead
  (repeat' split)
  · exact h
  · rw [State.report_plan]; exact State.applyBy_sound _ _ h
  · exact h

/-! ### Every move -/

theorem PlanStore.default_sound : ({} : PlanStore).Sound :=
  ⟨⟨by decide, by decide, ⟨by decide, by decide⟩, by simp⟩, by simp⟩

theorem State.Move.planLegal {s t : State} (hmove : s.Move t) (h : s.PlanLegal) : t.PlanLegal := by
  have kept {u : State} (hplan : u.plan = s.plan) : u.PlanLegal := by rwa [State.planLegal_iff, hplan]
  rw [State.planLegal_iff] at h ⊢
  cases hmove
  case same hb => exact kept (congrArg Blocks.plan hb)
  case handRestart => exact ⟨{ h.1 with }, h.2⟩
  case planRestart =>
    have gone : ({ s.plan with restartDue := false, commitDue := false, commit := .none, roundPlan := none } : PlanStore).Sound :=
      ⟨{ h.1 with }, by simp⟩
    unfold State.planRestart; dsimp only; split <;> exact gone
  case softReset =>
    refine ⟨{ PlanStore.default_sound.1 with }, fun q hq => ?_⟩
    obtain ⟨p, -, rfl⟩ := Option.map_eq_some_iff.1 hq
    exact p.allPass_resolved
  case hardReset mrank => exact PlanStore.default_sound
  case roundStart first =>
    refine ⟨{ h.1 with }, fun q hq => ?_⟩
    cases hq
    exact PlanStore.build_resolved h.1 _ _
  case commit =>
    have committed (n : RoundNo) (k : Nat) : ({ s.plan.committed with roundPlan := some (s.plan.committed.build n k) } : PlanStore).Sound := by
      refine ⟨{ h.1.committed with }, fun q hq => ?_⟩
      cases hq
      exact PlanStore.build_resolved h.1.committed _ _
    unfold State.applyCommit; dsimp only; split <;> exact committed _ _
  case apply row => exact State.applyHead_sound row h
  case slot a c => exact kept (by simp)
  case message m => exact kept (by simp)
  case answer row => exact kept (by simp)
  case timeOut tag => exact kept (by simp)
  case give f _ => exact kept (by simp)
  case take k => exact kept (by simp)
  case takeEnd => exact kept (by simp)
  all_goals exact kept rfl

/-- Settles O58: the live tables change by legal edits alone, and every round plan is built from legal tables. -/
theorem planLegalKept : Obligations.PlanLegalKept := fun _ _ hs hstep => step_keeps State.Move.planLegal hs hstep

end Sys2Proof.Machine
end

section
/-!
No store ever holds more than the spec's limit (R47, R105, R110, R144, R161, R164).
-/

namespace Sys2Proof.Machine

open Sys2Proof

/-! ### What the stores hold -/

/-- The requests in hand: those that the Responder holds with the replies that wait, those of the Originator table, and what waits
for the local equipment about them. -/
structure Requests where
  work : List WorkEntry
  answering : List WorkEntry
  replies : List Reply
  table : List OrigEntry
  results : List GiveResult
  completions : List Completion

/-- The contents of the limited stores. -/
structure Stores where
  edits : List Edit
  records : List DropRec
  queues : List (List InsertRec)
  requests : Requests

def State.requests (s : State) : Requests :=
  { work := s.responder.work
    answering := s.responder.answering
    replies := s.responder.replies
    table := s.originator
    results := s.port.giveResults
    completions := s.port.completions }

def State.queues (s : State) : List (List InsertRec) := s.contexts.toList.map Context.queue

def State.stores (s : State) : Stores :=
  { edits := s.plan.edits, records := s.drop.records, queues := s.queues, requests := s.requests }

/-- The limits of the edit list (R47). -/
structure EditLimits (edits : List Edit) : Prop where
  length : edits.length ≤ 16
  targets : (edits.map Edit.target).Nodup

/-- The limits of the Drop Queue (R105). -/
structure DropLimits (records : List DropRec) : Prop where
  length : records.length ≤ 64
  bytes : (records.map dropCharge).sum ≤ 8192

/-- The limits of the insert queues and of the pool that they share (R110). -/
structure PoolLimits (queues : List (List InsertRec)) : Prop where
  length : ∀ q ∈ queues, q.length ≤ 4
  bytes : (queues.map fun q => (q.map insertCharge).sum).sum ≤ 4096

/-- The reply places that are filled or reserved (R143). -/
def Requests.replyPlaces (r : Requests) : Nat :=
  r.replies.length + (r.work.filter (·.place)).length + (r.answering.filter (·.place)).length

/-- The completion places that are filled or reserved (R164). -/
def Requests.completionPlaces (r : Requests) : Nat :=
  r.completions.length + r.table.length + (r.work.filter WorkEntry.awaits).length + (r.answering.filter (·.origin == .self)).length

/-- The limits of the requests in hand (R144, R161, R164). -/
structure Requests.Limits (r : Requests) : Prop where
  work : r.work.length ≤ 4
  replies : r.replyPlaces ≤ 3
  table : r.table.length ≤ 4
  tags : (r.table.map OrigEntry.tag).Nodup
  results : r.results.length ≤ 4
  completions : r.completionPlaces ≤ 8

structure Stores.Limits (x : Stores) : Prop where
  edits : EditLimits x.edits
  drop : DropLimits x.records
  pool : PoolLimits x.queues
  requests : x.requests.Limits

theorem State.poolOccupancy_eq (s : State) : s.poolOccupancy = (s.queues.map fun q => (q.map insertCharge).sum).sum := by
  rw [State.poolOccupancy, State.queues, List.map_map]; rfl

theorem State.replyPlaces_eq (s : State) : s.responder.replies.length + s.responder.reserved = s.requests.replyPlaces :=
  (Nat.add_assoc _ _ _).symm

theorem State.completionPlaces_eq (s : State) :
    s.port.completions.length + s.reservedCompletions = s.requests.completionPlaces := by
  simp only [State.reservedCompletions, Requests.completionPlaces, State.requests]; omega

theorem State.limits_iff (s : State) : s.Limits ↔ s.stores.Limits := by
  constructor
  · rintro ⟨edits, targets, dropRecords, dropBytes, queues, pool, work, replies, table, tags, results, completions⟩
    refine ⟨⟨edits, targets⟩, ⟨dropRecords, dropBytes⟩, ⟨?_, s.poolOccupancy_eq ▸ pool⟩,
      ⟨work, s.replyPlaces_eq ▸ replies, table, tags, results, s.completionPlaces_eq ▸ completions⟩⟩
    intro q hq
    obtain ⟨c, hc, rfl⟩ := List.mem_map.1 hq
    exact queues c hc
  · rintro ⟨⟨edits, targets⟩, ⟨dropRecords, dropBytes⟩, ⟨queues, pool⟩, ⟨work, replies, table, tags, results, completions⟩⟩
    exact ⟨edits, targets, dropRecords, dropBytes, fun c hc => queues _ (List.mem_map_of_mem hc), s.poolOccupancy_eq ▸ pool, work,
      s.replyPlaces_eq ▸ replies, table, tags, results, s.completionPlaces_eq ▸ completions⟩

/-! ### The Drop Queue and the insert pool -/

theorem DropLimits.sublist {l k : List DropRec} (h : DropLimits l) (hk : k.Sublist l) : DropLimits k where
  length := hk.length_le.trans h.length
  bytes := ((hk.map dropCharge).sum_le_sum fun _ _ => Nat.zero_le _).trans h.bytes

/-- An admission keeps the limits (R105). -/
theorem DropLimits.admission {q : DropQueue} {r : DropRec} (h : DropLimits q.records) (hfit : q.fits r = true) :
    DropLimits (q.records ++ [r]) := by
  simp only [DropQueue.fits, Bool.and_eq_true, decide_eq_true_eq] at hfit
  rw [Config.dropBytes, Config.dropRecords, dropOccupancy] at hfit
  have := h.bytes
  exact ⟨by simp; omega, by simp; omega⟩

theorem sum_set_add {l : List Nat} {i : Nat} (h : i < l.length) (a : Nat) : (l.set i a).sum + l[i] = l.sum + a := by
  induction l generalizing i with
  | nil => simp at h
  | cons x xs ih =>
    cases i with
    | zero => simp; omega
    | succ i =>
      have := ih (Nat.lt_of_succ_lt_succ h)
      simp only [List.set_cons_succ, List.sum_cons, List.getElem_cons_succ]
      omega

/-- One queue changed: its own length, and the pool with what its charge grew by. -/
theorem PoolLimits.set {qs : List (List InsertRec)} (h : PoolLimits qs) {i : Nat} (hi : i < qs.length) {q : List InsertRec}
    (hq : q.length ≤ 4)
    (hsum : (qs.map fun q => (q.map insertCharge).sum).sum + (q.map insertCharge).sum ≤ 4096 + (qs[i].map insertCharge).sum) :
    PoolLimits (qs.set i q) where
  length := by
    intro x hx
    obtain hx | rfl := List.mem_or_eq_of_mem_set hx
    · exact h.length x hx
    · exact hq
  bytes := by
    have hadd := sum_set_add (l := qs.map fun q => (q.map insertCharge).sum) (i := i) (by simpa using hi) (q.map insertCharge).sum
    rw [← List.map_set, List.getElem_map] at hadd
    omega

/-- One queue shortened. -/
theorem PoolLimits.set_sublist {qs : List (List InsertRec)} (h : PoolLimits qs) {i : Nat} (hi : i < qs.length) {q : List InsertRec}
    (hq : q.Sublist qs[i]) : PoolLimits (qs.set i q) := by
  have hcharge := (hq.map insertCharge).sum_le_sum fun _ _ => Nat.zero_le _
  have := h.bytes
  exact h.set hi (hq.length_le.trans (h.length _ (List.getElem_mem hi))) (by omega)

/-! ### Updates of one context -/

theorem State.queues_mapCtx (s : State) (i : Fin 16) (f : Context → Context) :
    (s.mapCtx i f).queues = s.queues.set i (f s.contexts[i]).queue := by
  simp only [State.queues, State.mapCtx, Vector.toList_set, List.map_set]

theorem State.length_queues (s : State) : s.queues.length = 16 := by simp [State.queues]

theorem State.getElem_queues (s : State) (i : Fin 16) (h : i.val < s.queues.length) : s.queues[i.val] = s.contexts[i].queue := by
  simp [State.queues]

/-- An update that leaves the queue of its context as it is leaves every queue as it is. -/
theorem State.queues_mapCtx_of_eq {s : State} {i : Fin 16} {f : Context → Context} (h : (f s.contexts[i]).queue = s.contexts[i].queue) :
    (s.mapCtx i f).queues = s.queues := by
  rw [State.queues_mapCtx, h, ← State.getElem_queues s i (by rw [s.length_queues]; exact i.isLt), List.set_getElem_self]

theorem State.queues_map_of_eq (s : State) {f : Context → Context} (h : ∀ c, (f c).queue = c.queue) :
    (s.contexts.map f).toList.map Context.queue = s.queues := by
  rw [State.queues, Vector.toList_map, List.map_map]
  exact List.map_congr_left fun c _ => h c

/-- An update that shortens the queue of its context keeps the pool's limits. -/
theorem State.poolLimits_mapCtx {s : State} (h : PoolLimits s.queues) {i : Fin 16} {f : Context → Context}
    (hf : (f s.contexts[i]).queue.Sublist s.contexts[i].queue) : PoolLimits (s.mapCtx i f).queues := by
  have hi : i.val < s.queues.length := by rw [s.length_queues]; exact i.isLt
  rw [State.queues_mapCtx]
  exact h.set_sublist hi (by rwa [s.getElem_queues i hi])

/-! ### What leaves the stores alone -/

theorem State.emit_stores (x : TrunkItem) (s : State) : (s.emit x).stores = s.stores := by simp [State.stores, State.queues, State.requests]

theorem State.raise_stores (e : Event) (s : State) : (s.raise e).stores = s.stores := rfl

theorem State.count_stores (c : NodeCounter) (s : State) : (s.count c).stores = s.stores := rfl

theorem State.recordFailure_stores (e : WorkEntry) (i : Nat) (st : Status) (s : State) : (s.recordFailure e i st).stores = s.stores := by
  unfold State.recordFailure; dsimp only; split <;> rfl

theorem State.reminderEnds_stores (s : State) : s.reminderEnds.stores = s.stores := by
  rw [State.reminderEnds_frame]; rfl

/-- An answer reaches the allocation words and the claim alone. -/
theorem State.answerBy_stores (row : AnswerRow) (e : WorkEntry) (s : State) : (s.answerBy row e).2.2.stores = s.stores := by
  cases row <;> simp only [State.answerBy, State.answerClaim, State.answerSwap] <;> (repeat' split) <;> rfl

theorem State.takeLeaves_stores (k : TakeKind) (s : State) :
    (s.takeLeaves k).stores = { s.stores with requests := (s.takeLeaves k).requests } := by
  cases k <;> rfl

/-! ### Slots -/

theorem Context.sequence_queue (c : Context) (q : BitVec 3) : (c.sequence q).queue = c.queue := by
  unfold Context.sequence; dsimp only; (repeat' split) <;> rfl

theorem Context.beginRecord_queue (c : Context) (fs : Vector FilterUnit 8) (n : RoundNo) (tap : Bool) (cell : RxCell) :
    (c.beginRecord fs n tap cell).1.queue = c.queue := by
  unfold Context.beginRecord; dsimp only; (repeat' split) <;> rfl

theorem Context.continueRecord_queue (c : Context) (tap : Bool) (cell : RxCell) : (c.continueRecord tap cell).1.queue = c.queue := by
  unfold Context.continueRecord; (repeat' split) <;> rfl

/-- A delivery is about the record in assembly; the insert queue is no part of it. -/
theorem Context.receive_queue (c : Context) (fs : Vector FilterUnit 8) (n : RoundNo) (tap : Bool) (cell : RxCell) :
    (c.receive fs n tap cell).1.queue = c.queue := by
  unfold Context.receive
  dsimp only
  (repeat' split)
  · exact Context.beginRecord_queue _ fs n tap cell
  · rfl
  · exact (Context.beginRecord_queue _ fs n tap cell).trans (Context.sequence_queue _ _)
  · exact (Context.continueRecord_queue _ tap cell).trans (Context.sequence_queue _ _)

theorem Context.checkFailure_queue (c : Context) : c.checkFailure.queue = c.queue := by
  unfold Context.checkFailure; split <;> rfl

theorem Context.arrive_queue (c : Context) : c.arrive.queue = c.queue := by unfold Context.arrive; split <;> rfl

theorem Context.cellSent_queue (c : Context) : c.cellSent.queue.Sublist c.queue := by
  unfold Context.cellSent
  dsimp only
  split
  · exact .refl _
  · next r rest hq =>
    split
    · simp [hq]
    · exact .refl _

/-- The limits after a change that reaches the contexts and the Drop Queue alone. -/
theorem Stores.Limits.of_slot {s t : State} (h : s.stores.Limits) (hplan : t.plan = s.plan) (hreq : t.requests = s.requests)
    (hdrop : DropLimits t.drop.records) (hpool : PoolLimits t.queues) : t.stores.Limits where
  edits := by simpa only [State.stores, hplan] using h.edits
  drop := hdrop
  pool := hpool
  requests := by simpa only [State.stores, hreq] using h.requests

theorem State.mapCtx_limits {s : State} (h : s.stores.Limits) {i : Fin 16} {f : Context → Context}
    (hf : (f s.contexts[i]).queue.Sublist s.contexts[i].queue) : (s.mapCtx i f).stores.Limits :=
  h.of_slot rfl rfl h.drop (State.poolLimits_mapCtx h.pool hf)

theorem State.offer_limits (i : Fin 16) (a : Assembly) {s : State} (h : s.stores.Limits) : (s.offer i a).stores.Limits := by
  unfold State.offer
  dsimp only
  split
  · next hfit =>
    have hpool : PoolLimits (({ s with drop := { s.drop with records := s.drop.records ++ [dropRecordOf i s.contexts[i] a] } } : State).mapCtx i
        fun c => { c.count .records with resync := false }).queues := by
      rw [State.queues_mapCtx_of_eq rfl]; exact h.pool
    split <;> exact h.of_slot rfl rfl (h.drop.admission hfit) hpool
  · rw [State.raise_stores]; exact State.mapCtx_limits h (.refl _)

theorem State.deliver_limits (i : Fin 16) (tap : Bool) (cell : RxCell) {s : State} (h : s.stores.Limits) :
    (s.deliver i tap cell).2.stores.Limits := by
  have received : (s.mapCtx i fun _ => (s.contexts[i].receive s.filters s.tracker.round tap cell).1).stores.Limits := by
    refine h.of_slot rfl rfl h.drop ?_
    rw [State.queues_mapCtx_of_eq (Context.receive_queue ..)]; exact h.pool
  unfold State.deliver
  dsimp only
  split
  · exact received
  · exact State.offer_limits i _ received

theorem State.dropSlot_limits (i : Fin 16) (tap : Bool) (cell : RxCell) {s : State} (h : s.stores.Limits) :
    (s.dropSlot i tap cell).2.stores.Limits := by
  unfold State.dropSlot State.dropCell State.damagedDrop
  dsimp only
  (repeat' split)
  · exact h
  · rw [State.raise_stores]
    exact State.mapCtx_limits (s := s.count .cellCheckFail) h (by rw [Context.checkFailure_queue]; exact .refl _)
  · exact h
  · exact State.mapCtx_limits h (.refl _)
  · exact State.deliver_limits i tap cell h
  · exact State.deliver_limits i tap cell h
  · exact h

theorem State.insertSlot_limits (i : Fin 16) (cell : RxCell) {s : State} (h : s.stores.Limits) :
    (s.insertSlot i cell).2.stores.Limits := by
  have arrived : (s.mapCtx i Context.arrive).stores.Limits := State.mapCtx_limits h (by rw [Context.arrive_queue])
  unfold State.insertSlot State.insertCell
  dsimp only
  (repeat' split)
  · exact h
  · exact arrived
  · exact State.mapCtx_limits arrived (Context.cellSent_queue _)
  · exact State.mapCtx_limits arrived (.refl _)
  · exact arrived
  · exact State.mapCtx_limits arrived (.refl _)
  · exact arrived
  · exact h

theorem State.processSlot_limits (a : PlanEntry) (cell : RxCell) {s : State} (h : s.stores.Limits) :
    (s.processSlot a cell).2.stores.Limits := by
  cases a with
  | pass => exact h
  | tap i => exact State.dropSlot_limits i true cell h
  | drop i => exact State.dropSlot_limits i false cell h
  | insert i => exact State.insertSlot_limits i cell h
  | blank => unfold State.processSlot State.blankSlot; dsimp only; split <;> exact h
  | follow => exact h

/-! ### Requests joining and leaving -/

section Requests

variable {r : Requests}

/-- A reply place is filled where one is empty (R143). -/
theorem Requests.Limits.pushReply (h : r.Limits) (hroom : r.replyPlaces < 3) (x : Reply) :
    ({ r with replies := r.replies ++ [x] } : Requests).Limits :=
  { h with replies := by simp only [Requests.replyPlaces, List.length_append, List.length_singleton] at hroom ⊢; omega }

/-- A completion place is filled where one is empty (R164). -/
theorem Requests.Limits.pushCompletion (h : r.Limits) (hroom : r.completionPlaces < 8) (x : Completion) :
    ({ r with completions := r.completions ++ [x] } : Requests).Limits :=
  { h with completions := by simp only [Requests.completionPlaces, List.length_append, List.length_singleton] at hroom ⊢; omega }

/-- A request that waits for its answer takes the places that are tied to it. -/
theorem Requests.Limits.pushAnswering (h : r.Limits) {e : WorkEntry} (hreply : e.place = true → r.replyPlaces < 3)
    (hself : e.origin = .self → r.completionPlaces < 8) : ({ r with answering := r.answering ++ [e] } : Requests).Limits := by
  have hr := h.replies
  have hc := h.completions
  refine { h with replies := ?_, completions := ?_ }
  · cases hp : e.place
    · simpa [Requests.replyPlaces, hp] using hr
    · have := hreply hp
      simp only [Requests.replyPlaces, List.filter_append, List.length_append, List.filter_singleton, hp] at this ⊢
      simp; omega
  · by_cases ho : e.origin = .self
    · have := hself ho
      simp only [Requests.completionPlaces, List.filter_append, List.length_append, List.filter_singleton, ho] at this ⊢
      simp; omega
    · simpa [Requests.completionPlaces, ho] using hc

/-- A request that joins the work queue, likewise (R144). -/
theorem Requests.Limits.pushWork (h : r.Limits) {e : WorkEntry} (hlen : r.work.length < 4)
    (hreply : e.place = true → r.replyPlaces < 3) (hself : e.awaits = true → r.completionPlaces < 8) :
    ({ r with work := r.work ++ [e] } : Requests).Limits := by
  have hr := h.replies
  have hc := h.completions
  refine { h with work := by simp; omega, replies := ?_, completions := ?_ }
  · cases hp : e.place
    · simpa [Requests.replyPlaces, hp] using hr
    · have := hreply hp
      simp only [Requests.replyPlaces, List.filter_append, List.length_append, List.filter_singleton, hp] at this ⊢
      simp; omega
  · cases ho : e.awaits
    · simpa [Requests.completionPlaces, ho] using hc
    · have := hself ho
      simp only [Requests.completionPlaces, List.filter_append, List.length_append, List.filter_singleton, ho] at this ⊢
      simp; omega

/-- The request answered leaves its places empty. -/
theorem Requests.Limits.popAnswering (h : r.Limits) {e : WorkEntry} {rest : List WorkEntry} (he : r.answering = e :: rest) :
    ({ r with answering := rest } : Requests).Limits ∧
      (e.place = true → ({ r with answering := rest } : Requests).replyPlaces < 3) ∧
      (e.origin = .self → ({ r with answering := rest } : Requests).completionPlaces < 8) := by
  have hr := h.replies
  have hc := h.completions
  simp only [Requests.replyPlaces, Requests.completionPlaces, he, List.filter_cons] at hr hc ⊢
  refine ⟨{ h with replies := ?_, completions := ?_ }, fun hp => ?_, fun ho => ?_⟩
  · simp only [Requests.replyPlaces]; by_cases hp : e.place = true <;> simp [hp] at hr <;> omega
  · simp only [Requests.completionPlaces]; by_cases ho : e.origin = .self <;> simp [ho] at hc <;> omega
  · simp [hp] at hr; omega
  · simp [ho] at hc; omega

/-- The request applied leaves its places empty. -/
theorem Requests.Limits.popWork (h : r.Limits) {e : WorkEntry} {rest : List WorkEntry} (he : r.work = e :: rest) :
    ({ r with work := rest } : Requests).Limits ∧
      (e.place = true → ({ r with work := rest } : Requests).replyPlaces < 3) ∧
      (e.awaits = true → ({ r with work := rest } : Requests).completionPlaces < 8) := by
  have hw := h.work
  have hr := h.replies
  have hc := h.completions
  simp only [Requests.replyPlaces, Requests.completionPlaces, he, List.filter_cons] at hr hc ⊢
  refine ⟨{ h with work := ?_, replies := ?_, completions := ?_ }, fun hp => ?_, fun ho => ?_⟩
  · simp [he] at hw; simp; omega
  · simp only [Requests.replyPlaces]; by_cases hp : e.place = true <;> simp [hp] at hr <;> omega
  · simp only [Requests.completionPlaces]; by_cases ho : e.awaits = true <;> simp [ho] at hc <;> omega
  · simp [hp] at hr; omega
  · simp [ho] at hc; omega

/-- An entry of the Originator table completes: its place is filled (R165). -/
theorem Requests.Limits.completeEntry (h : r.Limits) {e : OrigEntry} (he : e ∈ r.table) (c : Completion) :
    ({ r with table := r.table.filter fun x => x.tag != e.tag, completions := r.completions ++ [c] } : Requests).Limits := by
  have hsub := List.filter_sublist (l := r.table) (p := fun x => x.tag != e.tag)
  have hlt : (r.table.filter fun x => x.tag != e.tag).length < r.table.length :=
    List.length_filter_lt_length_iff_exists.2 ⟨e, he, by simp⟩
  have hc := h.completions
  refine { h with table := hsub.length_le.trans h.table, tags := h.tags.sublist (hsub.map _), completions := ?_ }
  simp only [Requests.completionPlaces, List.length_append, List.length_singleton] at hc ⊢
  omega

/-- Every entry of the table completes, and what the places of the work queue are tied to is lost or kept (R157, R170). -/
theorem Requests.Limits.abandon (h : r.Limits) (cs : List Completion) (hcs : cs.length = r.table.length) :
    ({ r with
        work := r.work.map fun e => { e with place := false }
        answering := r.answering.map fun e => { e with place := false }
        replies := []
        table := []
        completions := r.completions ++ cs } : Requests).Limits := by
  have hc := h.completions
  have hawaits : (WorkEntry.awaits ∘ fun e => { e with place := false }) = WorkEntry.awaits := rfl
  refine ⟨by simpa using h.work, ?_, by simp, by simp, h.results, ?_⟩
  · simp [Requests.replyPlaces, List.filter_map, Function.comp_def]
  · simp only [Requests.completionPlaces, List.filter_map, List.length_map, List.length_append, List.length_nil, hawaits] at hc ⊢
    simp only [Function.comp_def] at hc ⊢
    omega

end Requests

/-! ### Taking, answering and applying -/

/-- The limits after a change that reaches the requests alone. -/
theorem Stores.Limits.of_requests {x y : Stores} (h : x.Limits) (hrest : y = { x with requests := y.requests }) (hreq : y.requests.Limits) :
    y.Limits := by
  rw [hrest]; exact { h with requests := hreq }

section Taking

variable {s : State}

theorem State.fillReply_limits (h : s.stores.Limits) (e : WorkEntry) (st : Status) (body : List Word) (mark : Option Release)
    (hreply : e.origin = .unicast → s.requests.replyPlaces < 3) (hself : e.origin = .self → s.requests.completionPlaces < 8) :
    (s.fillReply e st body mark).stores.Limits := by
  unfold State.fillReply
  split
  · next ho =>
    split
    · exact h.of_requests rfl (h.requests.pushReply (hreply ho) _)
    · exact h
  · next ho => exact h.of_requests rfl (h.requests.pushCompletion (hself ho) _)
  · exact h

theorem State.freeReplies_pos_iff : 0 < s.responder.freeReplies ↔ s.requests.replyPlaces < 3 := by
  rw [← s.replyPlaces_eq, Responder.freeReplies, Config.replyPlaces]; omega

theorem State.freeCompletions_ne_zero_iff : s.freeCompletions ≠ 0 ↔ s.requests.completionPlaces < 8 := by
  rw [← s.completionPlaces_eq, State.freeCompletions, Config.completionPlaces]; omega

theorem State.enqueue_limits (h : s.stores.Limits) {e : WorkEntry} (hlen : s.responder.work.length < 4)
    (hreply : e.place = true → s.requests.replyPlaces < 3) (hself : e.awaits = true → s.requests.completionPlaces < 8) :
    (s.enqueue e).stores.Limits :=
  h.of_requests rfl (h.requests.pushWork hlen hreply hself)

/-- A posted write is completed at its taking, so its entry of the work queue awaits nothing (R166). -/
theorem WorkEntry.awaits_of_writePosted {e : WorkEntry} (h : e.kind = .writePosted) : e.awaits = false := by
  simp [WorkEntry.awaits, h]

theorem WorkEntry.origin_of_awaits {e : WorkEntry} (h : e.awaits = true) : e.origin = .self := by
  simp only [WorkEntry.awaits, Bool.and_eq_true, beq_iff_eq] at h; exact h.1

theorem State.fillReply_work (e : WorkEntry) (st : Status) (body : List Word) (mark : Option Release) (s : State) :
    (s.fillReply e st body mark).responder.work = s.responder.work := by
  unfold State.fillReply; (repeat' split) <;> rfl

/-- A request is taken only where its places are empty (R141). -/
theorem State.take_limits (h : s.stores.Limits) {e : WorkEntry} {t : State} (ht : s.take e = some t)
    (hself : e.origin = .self → s.requests.completionPlaces < 8) : t.stores.Limits := by
  unfold State.take at ht
  dsimp only at ht
  split at ht
  · split at ht <;> cases ht
    next hroom =>
    rw [State.freeReplies_pos_iff] at hroom
    exact h.of_requests rfl (h.requests.pushAnswering (fun _ => hroom) hself)
  · split at ht <;> cases ht
    next hroom =>
    rw [State.freeReplies_pos_iff] at hroom
    exact State.fillReply_limits h e _ [] none (fun _ => hroom) hself
  · split at ht
    · next hroom =>
      simp only [Bool.and_eq_true, decide_eq_true_eq, State.freeReplies_pos_iff] at hroom
      obtain ⟨hroom, hlen⟩ := hroom
      split at ht <;> cases ht
      · next hkind =>
        have filled := State.fillReply_limits h e .writeAccepted [] none (fun _ => hroom) hself
        refine State.enqueue_limits filled ?_ (by simp) fun ha => ?_
        · rwa [State.fillReply_work]
        · exact absurd ha (by simp [WorkEntry.awaits, hkind])
      · exact State.enqueue_limits h hlen (fun _ => hroom) fun ha => hself (WorkEntry.origin_of_awaits ha)
    · cases ht

theorem State.takeGroup_limits (h : s.stores.Limits) {e : WorkEntry} (ho : e.origin = .group) : (s.takeGroup e).stores.Limits := by
  have notSelf : e.origin ≠ .self := by simp [ho]
  unfold State.takeGroup
  (repeat' split)
  · exact h.of_requests rfl (h.requests.pushAnswering (by simp) fun hs => absurd hs notSelf)
  · rw [State.recordFailure_stores]; exact h
  · next hlen => exact State.enqueue_limits h hlen (by simp) fun ha => absurd (WorkEntry.origin_of_awaits ha) notSelf
  · rw [State.recordFailure_stores]; exact h

/-- An answer fills the place that its request gives up. -/
theorem State.answerHead_limits (row : AnswerRow) (h : s.stores.Limits) : (s.answerHead row).stores.Limits := by
  unfold State.answerHead
  split
  · exact h
  · next e rest he =>
    obtain ⟨hpop, hreply, hself⟩ := h.requests.popAnswering he
    have popped : (s.unanswered rest).stores.Limits := h.of_requests rfl hpop
    have answered : ((s.unanswered rest).answerBy row e).2.2.stores = (s.unanswered rest).stores := State.answerBy_stores ..
    have hreq := congrArg Stores.requests answered
    rw [← answered] at popped
    split
    · dsimp only
      (repeat' split)
      · rw [State.recordFailure_stores]; exact popped
      · exact popped
      · exact popped
      · next hno =>
        refine State.fillReply_limits popped e _ _ none (fun ho => ?_) fun ho => ?_
        · exact lt_of_eq_of_lt (congrArg Requests.replyPlaces hreq) (hreply (by simpa [ho] using hno))
        · exact lt_of_eq_of_lt (congrArg Requests.completionPlaces hreq) (hself ho)
    · exact h

theorem State.answerAll_limits (h : s.stores.Limits) : s.answerAll.stores.Limits := by
  suffices ∀ (n : Nat) (t : State), t.stores.Limits → (t.answerFor n).stores.Limits from this _ s h
  intro n
  induction n with
  | zero => exact fun _ ht => ht
  | succ n ih =>
    refine fun t ht => ih _ ?_
    unfold State.answerNext
    split
    · exact ht
    · exact State.answerHead_limits _ ht

end Taking

/-! ### What the rows of the work queue do to the stores -/

/-- `t` keeps the limits that `s` keeps and holds the same requests. -/
structure State.KeepsStores (s t : State) : Prop where
  requests : t.requests = s.requests
  limits : s.stores.Limits → t.stores.Limits

theorem State.KeepsStores.refl (s : State) : s.KeepsStores s := ⟨rfl, id⟩

theorem State.KeepsStores.trans {s t u : State} (h : s.KeepsStores t) (h' : t.KeepsStores u) : s.KeepsStores u :=
  ⟨h'.requests.trans h.requests, fun hs => h'.limits (h.limits hs)⟩

theorem State.KeepsStores.of_stores {s t : State} (h : t.stores = s.stores) : s.KeepsStores t :=
  ⟨congrArg Stores.requests h, fun hs => h ▸ hs⟩

theorem State.KeepsStores.mapCtx (s : State) {i : Fin 16} {f : Context → Context}
    (hf : (f s.contexts[i]).queue.Sublist s.contexts[i].queue) : s.KeepsStores (s.mapCtx i f) :=
  ⟨rfl, fun h => State.mapCtx_limits h hf⟩

section Applying

variable (s : State)

theorem Context.writeConfig_queue (c : Context) (w : Word) : (c.writeConfig w).2.queue.Sublist c.queue := by
  unfold Context.writeConfig
  split
  · exact .refl _
  · split
    · exact .refl _
    · dsimp only; split
      · exact .refl _
      · exact List.nil_sublist _

theorem PlanStore.writeWord_editLimits {p : PlanStore} (h : EditLimits p.edits) (space i : Nat) (w : Word) :
    EditLimits (p.writeWord space i w).2.edits := by
  unfold PlanStore.writeWord
  dsimp only
  split
  · exact h
  · exact ⟨PlanStore.takeEdit_edits_length_le p _ h.length, PlanStore.takeEdit_targets_nodup p _ h.targets⟩

theorem State.writeWord_stores (space i : Nat) (w : Word) : s.KeepsStores (s.writeWord space i w).2 := by
  unfold State.writeWord
  split
  · rw [State.writeConfigWord_frame]; exact .of_stores rfl
  · show s.KeepsStores (s.mapCtx (ctxOf (i / 3)) fun _ => (s.contexts[ctxOf (i / 3)].writeConfig w).2)
    exact .mapCtx s (Context.writeConfig_queue _ w)
  · exact .of_stores rfl
  · exact ⟨rfl, fun h => { h with edits := PlanStore.writeWord_editLimits h.edits space i w }⟩

theorem State.writeWords_stores (ws : List Word) (space i : Nat) : s.KeepsStores (s.writeWords space i ws).2.2 := by
  induction ws generalizing s i with
  | nil => exact .refl s
  | cons w ws ih =>
    unfold State.writeWords
    dsimp only
    split
    · exact (s.writeWord_stores space i w).trans (ih _ (i + 1))
    · exact s.writeWord_stores space i w

theorem State.applyWrite_stores (body : List Word) : s.KeepsStores (s.applyWrite body).2.2.2.2 := by
  unfold State.applyWrite
  split
  · exact .refl s
  · exact s.writeWords_stores _ _ _

theorem State.contextCommand_stores (n : Nat) {f : Context → Status × Context} (hf : ∀ c, (f c).2.queue.Sublist c.queue) :
    s.KeepsStores (s.contextCommand n f).2.2 := by
  unfold State.contextCommand
  dsimp only
  (repeat' split)
  · exact .refl s
  · show s.KeepsStores (s.mapCtx (ctxOf n) fun _ => (f s.contexts[ctxOf n]).2)
    exact .mapCtx s (hf _)
  · exact .refl s

theorem Context.start_queue (c : Context) : c.start.2.queue.Sublist c.queue := by
  unfold Context.start; (repeat' split) <;> exact .refl _

theorem Context.halt_queue (c : Context) : c.halt.queue.Sublist c.queue := by
  unfold Context.halt; split
  · exact List.nil_sublist _
  · exact .refl _

theorem Context.stop_queue (c : Context) : c.stop.queue.Sublist c.queue := by
  unfold Context.stop
  (repeat' split)
  · exact .refl _
  · exact .refl _
  · exact .refl _
  · exact List.nil_sublist _
  · exact .refl _

theorem State.flushDropQueue_stores : s.KeepsStores s.flushDropQueue.2.2 := by
  refine ⟨rfl, fun h => { h with drop := h.drop.sublist ?_ }⟩
  show (if s.drop.inTransfer then s.drop.records.take 1 else []).Sublist s.drop.records
  split
  · exact List.take_sublist _ _
  · exact List.nil_sublist _

/-- No row of the work queue adds to a store but an edit request, which keeps to the limits of the edit list. -/
theorem State.applyBy_stores (row : WorkRow) (body : List Word) : s.KeepsStores (s.applyBy row body).2.2.2.2 := by
  cases row <;> simp only [State.applyBy, plainly]
  case commitPlan => unfold State.commitPlan; dsimp only; (repeat' split) <;> exact .of_stores rfl
  case cancelCommit => unfold State.cancelCommit; dsimp only; split <;> exact .of_stores rfl
  case startContext => exact s.contextCommand_stores _ Context.start_queue
  case stopContext => exact s.contextCommand_stores _ Context.stop_queue
  case haltContext => exact s.contextCommand_stores _ Context.halt_queue
  case flushDropQueue => exact s.flushDropQueue_stores
  case clearEvents =>
    refine .of_stores ?_
    unfold State.clearEvents
    dsimp only
    rw [State.reminderEnds_stores]
    split <;> rfl
  case clearCountersNode => split <;> exact .of_stores rfl
  case clearCountersContext =>
    split
    · exact .refl s
    · exact .mapCtx s (.refl _)
  case clearCountersAll =>
    have hq : (s.clearAllCounters).queues = s.queues := s.queues_map_of_eq fun _ => rfl
    exact ⟨rfl, fun h => h.of_slot rfl rfl h.drop (hq ▸ h.pool)⟩
  case takeHolder => unfold State.takeHolder; split <;> exact .of_stores rfl
  case dropHolder => unfold State.dropHolder; split <;> exact .of_stores rfl
  case restartRing => exact .refl s
  case nodeReset => exact .refl s
  all_goals exact s.applyWrite_stores body

theorem State.addRelease_stores (e : WorkEntry) (rel : Option Release) : (s.addRelease e rel).stores = s.stores := by
  unfold State.addRelease; dsimp only; (repeat' split) <;> rfl

/-- The outcome of an applied entry fills the place that the entry gives up. -/
theorem State.report_limits {e : WorkEntry} {a : Applied} (h : a.2.2.2.2.stores.Limits)
    (hreply : e.place = true → a.2.2.2.2.requests.replyPlaces < 3)
    (hself : e.awaits = true → a.2.2.2.2.requests.completionPlaces < 8) : (State.report e a).stores.Limits := by
  obtain ⟨st, b, i, r, t⟩ := a
  unfold State.report
  dsimp only at h hreply hself ⊢
  rw [State.addRelease_stores]
  (repeat' split)
  · rw [State.recordFailure_stores]; exact h
  · exact h
  · exact h
  · next hkind hno =>
    have hkind : e.kind ≠ .writePosted ∧ e.origin ≠ .group := by simpa [not_or] using hkind
    refine State.fillReply_limits h e st b r (fun ho => hreply (by simpa [ho] using hno)) fun ho => hself ?_
    simp [WorkEntry.awaits, ho, hkind.1]

theorem State.applyHead_limits (row : WorkRow) (h : s.stores.Limits) : (s.applyHead row).stores.Limits := by
  unfold State.applyHead
  split
  · exact h
  · next e rest he =>
    obtain ⟨hpop, hreply, hself⟩ := h.requests.popWork he
    have popped : (s.popped rest).stores.Limits := h.of_requests rfl hpop
    have applied := (s.popped rest).applyBy_stores row e.body
    split
    · refine State.report_limits (applied.limits popped) (fun hp => ?_) fun ha => ?_
      · exact lt_of_eq_of_lt (congrArg Requests.replyPlaces applied.requests) (hreply hp)
      · exact lt_of_eq_of_lt (congrArg Requests.completionPlaces applied.requests) (hself ha)
    · exact h

end Applying

/-! ### Messages -/

section Messages

variable {s : State}

theorem State.sendMessage_stores (m : RxMessage) (s : State) : (s.sendMessage m).stores = s.stores := State.emit_stores _ _

theorem State.forward_stores (m : RxMessage) (b : Bool) (s : State) : (s.forward m b).stores = s.stores := by
  unfold State.forward; split
  · rfl
  · exact State.sendMessage_stores _ s

theorem State.completeEntry_limits (h : s.stores.Limits) {e : OrigEntry} (he : e ∈ s.originator) (st : BitVec 8) (body : List Word) :
    (s.completeEntry e st body).stores.Limits :=
  h.of_requests rfl (h.requests.completeEntry he _)

theorem State.replyArrives_limits (h : s.stores.Limits) (m : RxMessage) : (s.replyArrives m).stores.Limits := by
  unfold State.replyArrives
  split
  · exact h
  · next e he =>
    split <;> exact State.completeEntry_limits h (List.mem_of_find?_eq_some he) _ _

theorem State.requestReturns_limits (h : s.stores.Limits) (kind : ReqKind) (m : RxMessage) :
    (s.requestReturns kind m).stores.Limits := by
  unfold State.requestReturns
  split
  · exact h
  · next e he =>
    have completed (st : BitVec 8) := State.completeEntry_limits h (List.mem_of_find?_eq_some he) st []
    (repeat' split)
    · exact completed _
    · exact h
    · exact completed _
    · exact completed _

theorem State.timeOut_limits (h : s.stores.Limits) (tag : Nat) : (s.timeOut tag).stores.Limits := by
  unfold State.timeOut
  split
  · exact h
  · next e he => exact State.completeEntry_limits h (List.mem_of_find?_eq_some he) _ _

theorem State.noticeDelivered_stores (m : RxMessage) (s : State) : (s.noticeDelivered m).stores = s.stores := by
  unfold State.noticeDelivered; dsimp only; split <;> rfl

theorem State.delivered_limits (h : s.stores.Limits) (m : RxMessage) : (s.delivered m).stores.Limits := by
  unfold State.delivered State.requestDelivered
  (repeat' split)
  · next ht => exact State.take_limits h ht (by simp [requestEntry])
  · rw [State.sendMessage_stores]; exact h
  · exact State.replyArrives_limits h m
  · rw [State.noticeDelivered_stores]; exact h

theorem State.groupReadSwap_limits (h : s.stores.Limits) (kind : ReqKind) (m : RxMessage) :
    (s.groupReadSwap kind m).2.stores.Limits := by
  unfold State.groupReadSwap
  (repeat' split)
  · exact h
  · exact h
  · next ht => exact State.take_limits h ht (by simp [requestEntry])
  · exact h

theorem State.groupMessage_limits (h : s.stores.Limits) (m : RxMessage) : (s.groupMessage m).stores.Limits := by
  unfold State.groupMessage
  split
  · rw [State.forward_stores]; exact h
  · rw [State.forward_stores]; exact State.answerAll_limits (State.groupReadSwap_limits h _ m)
  · rw [State.forward_stores]; exact State.answerAll_limits (State.groupReadSwap_limits h _ m)
  · rw [State.forward_stores]; exact State.answerAll_limits (State.takeGroup_limits h rfl)

theorem State.handleMessage_limits (h : s.stores.Limits) (m : RxMessage) : (s.handleMessage m).stores.Limits := by
  unfold State.handleMessage
  (repeat' split)
  · exact h
  · exact h
  · unfold State.returned
    split
    · exact State.requestReturns_limits h _ m
    · exact h
  · exact State.delivered_limits h m
  · exact State.groupMessage_limits h m
  · rw [State.forward_stores]; exact h

end Messages

/-! ### The Give lane -/

section Give

variable {s : State}

/-- A GIVE_RESULT joins those that wait where fewer than four do (R161). -/
theorem State.giveResult_limits (h : s.stores.Limits) (hroom : s.port.giveResults.length < 4) (f : List Half) (st : Status) :
    (s.giveResult f st).stores.Limits :=
  h.of_requests rfl { h.requests with results := by simp [State.stores, State.requests, State.giveResult]; omega }

/-- What the tests of R111 leave an accepted offer: room in its queue and in the pool. -/
theorem State.insertTest_ok {f : List Half} (hok : s.insertTest f = .ok) :
    ∃ i : Fin 16, giveContext f = i.val ∧ s.contexts[i].queue.length < 4 ∧
      s.poolOccupancy + insertCharge { payload := recordBytes f } ≤ 4096 := by
  have hctx : giveContext f < 16 := by
    by_contra h
    rw [State.insertTest_of_context_above (by omega)] at hok
    cases hok
  have hfits : InsertLengthFits f := by
    by_contra h
    rw [State.insertTest_of_length_misfit (i := ⟨_, hctx⟩) rfl h] at hok
    cases hok
  refine ⟨⟨_, hctx⟩, rfl, ?_⟩
  rw [State.insertTest_of_length_fits (i := ⟨_, hctx⟩) rfl hfits] at hok
  split_ifs at hok with _ _ hqueue hpool
  rw [hfits.insertCharge_eq]
  exact ⟨by omega, by omega⟩

/-- An offer to the insert pool is accepted only within its limits (R111). -/
theorem State.insertOffer_limits (h : s.stores.Limits) (f : List Half) : (s.insertOffer f).2.stores.Limits := by
  by_cases hok : s.insertTest f = .ok
  · obtain ⟨i, hctx, hlen, hbytes⟩ := State.insertTest_ok hok
    have hi : i.val < s.queues.length := by rw [s.length_queues]; exact i.isLt
    rw [State.insertOffer_of_accepted hctx hok]
    refine h.of_slot rfl rfl h.drop ?_
    rw [State.queues_mapCtx]
    rw [s.poolOccupancy_eq] at hbytes
    have hold := s.getElem_queues i hi
    refine PoolLimits.set h.pool hi (by simpa using Nat.succ_le_of_lt hlen) ?_
    simp only [List.map_append, List.sum_append, List.map_singleton, List.sum_singleton, State.stores, hold]
    omega
  · rw [State.insertOffer_of_refused hok]; exact h

/-- The tag of a new entry is held by no entry of the table: of the 32 ring tags at most four are in use. -/
theorem lowestFreeTag_not_mem {table : List OrigEntry} (h : table.length < 32) : lowestFreeTag table ∉ table.map OrigEntry.tag := by
  have hfree : ∃ t ∈ List.range 32, t ∉ table.map OrigEntry.tag := by
    by_contra hall
    push Not at hall
    have := (List.subperm_of_subset List.nodup_range hall).length_le
    simp only [List.length_range, List.length_map] at this
    omega
  obtain ⟨t, ht, hnot⟩ := hfree
  have hsome : ((List.range 32).find? fun t => table.all fun e => e.tag != t).isSome :=
    List.find?_isSome.2 ⟨t, ht, by simpa using hnot⟩
  obtain ⟨u, hu⟩ := Option.isSome_iff_exists.1 hsome
  have := List.find?_some hu
  rw [lowestFreeTag, hu, Option.getD_some]
  simpa using this

theorem State.isSelfDest_congr {s t : State} (h : t.tracker = s.tracker) (d : Nat) : t.isSelfDest d = s.isSelfDest d := by
  rw [State.isSelfDest, State.isSelfDest, h]

/-- What the tests of R165 leave an accepted request: an empty completion place, and for a ring request room in the table. -/
theorem State.requestTest_ok {f : List Half} (hok : s.requestTest f = .ok) :
    s.requests.completionPlaces < 8 ∧ (s.isSelfDest (giveDest f) = false → s.originator.length < 4) := by
  unfold State.requestTest at hok
  dsimp only at hok
  split at hok
  · cases hok
  · split_ifs at hok with _ _ _ _ hfree htable
    refine ⟨State.freeCompletions_ne_zero_iff.1 hfree, fun hself => ?_⟩
    exact Nat.not_le.1 fun hfull => htable (by simp [hself, Config.tableLimit, hfull])

/-- A LOCAL_REQUEST joins the table or the Responder only where its places are empty (R165). -/
theorem State.requestOffer_limits (h : s.stores.Limits) (hroom : s.port.giveResults.length < 4) (f : List Half) :
    (s.requestOffer f).stores.Limits := by
  have given := State.giveResult_limits h hroom f (s.requestTest f)
  unfold State.requestOffer
  dsimp only
  split
  · exact given
  · next hok =>
    obtain ⟨hplace, htable⟩ := State.requestTest_ok (not_not.1 hok)
    split
    · unfold State.handSelf
      split
      · next ht => exact State.take_limits given ht fun _ => hplace
      · exact given.of_requests rfl (given.requests.pushCompletion hplace _)
    · next hself =>
      have hlen := htable (by simpa using hself)
      refine given.of_requests rfl { given.requests with table := ?_, tags := ?_, completions := ?_ }
      · simp [State.stores, State.requests]; omega
      · have hnot := lowestFreeTag_not_mem (table := s.originator) (by omega)
        simp only [State.stores, State.requests, State.giveResult_originator, List.map_append, List.map_singleton]
        rw [← List.concat_eq_append]
        exact h.requests.tags.concat hnot
      · simp only [Requests.completionPlaces, State.stores, State.requests, List.length_append, List.length_singleton] at hplace ⊢
        simp only [State.giveResult]
        omega

theorem State.insertOffer_port (f : List Half) (s : State) : (s.insertOffer f).2.port = s.port := by
  unfold State.insertOffer; dsimp only; split <;> rfl

theorem State.decideGive_limits (h : s.stores.Limits) (hroom : s.port.giveResults.length < 4) (f : List Half) :
    (s.decideGive f).stores.Limits := by
  unfold State.decideGive
  dsimp only
  (repeat' split)
  · exact h
  · refine State.giveResult_limits (State.insertOffer_limits h f) ?_ f _
    rwa [State.insertOffer_port]
  · exact State.requestOffer_limits h hroom f
  · exact State.giveResult_limits h hroom f _

end Give

/-! ### Every move -/

theorem State.stores_of_blocks {s t : State} (h : t.blocks = s.blocks) : t.stores = s.stores := by
  have hplan : t.plan = s.plan := congrArg Blocks.plan h
  have hcontexts : t.contexts = s.contexts := congrArg Blocks.contexts h
  have hrecords : t.drop.records = s.drop.records := congrArg Blocks.records h
  have hresponder : t.responder = s.responder := congrArg Blocks.responder h
  have horiginator : t.originator = s.originator := congrArg Blocks.originator h
  have hresults : t.port.giveResults = s.port.giveResults := congrArg Blocks.results h
  have hcompletions : t.port.completions = s.port.completions := congrArg Blocks.completions h
  simp only [State.stores, State.queues, State.requests, hplan, hcontexts, hrecords, hresponder, horiginator, hresults, hcompletions]

theorem holdContext_queue (c : Context) : (holdContext c).queue = c.queue := by
  unfold holdContext; (repeat' split) <;> rfl

theorem Context.ageRecord_queue (c : Context) : c.ageRecord.queue = c.queue := by unfold Context.ageRecord; split <;> rfl

theorem Context.resumed_queue (c : Context) : c.resumed.queue = c.queue := by
  unfold Context.resumed; (repeat' split) <;> rfl

theorem Stores.default_limits : State.reset.stores.Limits := State.reset.limits_iff.1
  ⟨by decide, by decide, by decide, by decide, by decide, by decide, by decide, by decide, by decide, by decide, by decide, by decide⟩

/-- A soft reset leaves a drop record in transfer and the completions, those of the requests given up among them (R158). -/
theorem State.softReset_limits {s : State} (h : s.stores.Limits) : s.softReset.stores.Limits := by
  have hc := h.requests.completions
  refine ⟨Stores.default_limits.edits, h.drop.sublist ?_, Stores.default_limits.pool,
    { Stores.default_limits.requests with results := h.requests.results, completions := ?_ }⟩
  · show s.drop.softReset.records.Sublist s.drop.records
    unfold DropQueue.softReset
    split
    · exact List.take_sublist _ _
    · exact List.nil_sublist _
  · simp only [Requests.completionPlaces, State.stores, State.requests] at hc
    simp only [Requests.completionPlaces, State.stores, State.requests, State.softReset, State.abandonAll, State.wipedSelf,
      List.length_append, List.length_map, List.filter_nil, List.length_nil]
    omega

theorem State.takeLeaves_limits {s : State} (h : s.stores.Limits) (k : TakeKind) : (s.takeLeaves k).stores.Limits := by
  refine h.of_requests (s.takeLeaves_stores k) ?_
  have hr := h.requests.results
  have hc := h.requests.completions
  cases k with
  | giveResult => exact { h.requests with results := (List.drop_sublist 1 _).length_le.trans hr }
  | completion =>
    refine { h.requests with completions := ?_ }
    simp only [Requests.completionPlaces, State.stores, State.requests, State.takeLeaves, List.length_drop] at hc ⊢
    omega
  | ownNotice => exact h.requests
  | receivedNotice => exact h.requests
  | dropRecord => exact h.requests

theorem State.takeEnd_limits {s : State} (h : s.stores.Limits) : s.takeEnd.stores.Limits := by
  unfold State.takeEnd
  split
  · exact h
  · split
    · exact h
    · dsimp only
      split
      · exact h.of_slot rfl rfl (h.drop.sublist (List.drop_sublist 1 _)) h.pool
      · exact h

theorem map_tag_of_keeps {f : OrigEntry → OrigEntry} (hf : ∀ e, (f e).tag = e.tag) (table : List OrigEntry) :
    (table.map f).map OrigEntry.tag = table.map OrigEntry.tag := by
  rw [List.map_map]; exact List.map_congr_left fun e _ => hf e

/-- A change of entries of the table that keeps their tags. -/
theorem Requests.Limits.mapTable {r : Requests} (h : r.Limits) {f : OrigEntry → OrigEntry} (hf : ∀ e, (f e).tag = e.tag) :
    ({ r with table := r.table.map f } : Requests).Limits where
  work := h.work
  replies := h.replies
  table := by simpa using h.table
  tags := by simpa only [map_tag_of_keeps hf] using h.tags
  results := h.results
  completions := by simpa [Requests.completionPlaces] using h.completions

/-- Every elementary move keeps the limits. -/
theorem State.Move.limits {s t : State} (hmove : s.Move t) (h : s.Limits) : t.Limits := by
  rw [State.limits_iff] at h ⊢
  cases hmove
  case same hb => rw [State.stores_of_blocks hb]; exact h
  case handRestart =>
    have hq : s.handRestart.queues = s.queues := s.queues_map_of_eq holdContext_queue
    exact ⟨h.edits, h.drop, by rw [State.stores, hq]; exact h.pool, h.requests.abandon _ (List.length_map _)⟩
  case planRestart => unfold State.planRestart; dsimp only; split <;> exact h
  case softReset => exact State.softReset_limits h
  case hardReset mrank => exact Stores.default_limits
  case slot a c => exact State.processSlot_limits a c h
  case message m => exact State.handleMessage_limits h m
  case roundStart first =>
    have hq : (s.blockRoundStart first).queues = s.queues := s.queues_map_of_eq Context.ageRecord_queue
    refine ⟨h.edits, h.drop, by rw [State.stores, hq]; exact h.pool, h.requests.mapTable fun e => ?_⟩
    unfold OrigEntry.roundStart; split <;> rfl
  case commit =>
    have emptied : EditLimits s.applyCommit.plan.edits := by
      unfold State.applyCommit; dsimp only; split <;> exact Stores.default_limits.edits
    have rest : s.applyCommit.stores = { s.stores with edits := s.applyCommit.plan.edits } := by
      unfold State.applyCommit; dsimp only; split <;> rfl
    rw [rest]; exact { h with edits := emptied }
  case answer row => exact State.answerHead_limits row h
  case apply row => exact State.applyHead_limits s row h
  case resumeAll =>
    have hq : s.resumeAll.queues = s.queues := s.queues_map_of_eq Context.resumed_queue
    exact h.of_slot rfl rfl h.drop (hq ▸ h.pool)
  case endStale i => unfold State.endStale; rw [State.raise_stores]; exact State.mapCtx_limits h (.refl _)
  case endDrain i => unfold State.endDrain; rw [State.raise_stores]; exact State.mapCtx_limits h (List.nil_sublist _)
  case timeOut tag => exact State.timeOut_limits h tag
  case replyDeparts =>
    refine h.of_requests rfl { h.requests with replies := ?_ }
    have hr := h.requests.replies
    simp only [Requests.replyPlaces, State.stores, State.requests, List.length_drop] at hr ⊢
    omega
  case requestSent tag n => exact h.of_requests rfl (h.requests.mapTable fun e => by split <;> rfl)
  case give f hready =>
    simp only [State.gready, Bool.and_eq_true, decide_eq_true_eq] at hready
    exact State.decideGive_limits h hready.2 f
  case take k => exact State.takeLeaves_limits h k
  case takeEnd => exact State.takeEnd_limits h
  all_goals exact h

/-- Settles O57: whatever joins a store has found room in it, and every place that is filled has been reserved or was empty. -/
theorem limitsKept : Obligations.LimitsKept := fun _ _ hs hstep => step_keeps State.Move.limits hs hstep

/-- Settles O60: the reset state has every store empty, the default plan tables, and a tracker in DOWN with the link down. -/
theorem resetMeetsInvariants : Obligations.ResetMeetsInvariants :=
  ⟨(State.limits_iff _).2 Stores.default_limits, PlanStore.default_sound, by simp [State.reset],
    { Tracker.leave_legal State.reset.tracker with }⟩

end Sys2Proof.Machine
end

section
/-!
The layer that the statements about single commands share: how a command of each kind runs, what is sent, what beginning an
attempt and entering ENUMERATING do, and what a ring restart leaves at the blocks.
-/

namespace Sys2Proof.Machine

open Sys2Proof

/-! ### How a command runs -/

/-- The outcome of a command, over the state that it leaves. -/
theorem next_congr {s t : State} (h : s = t) : (.next s.finish : Host.Outcome State Fault Refusal) = .next t.finish := by rw [h]

/-- What arrives out of RESET# has its effect. -/
theorem next_released {s : State} (h : s.resetAsserted = false) (f : State → State) :
    (.next (s.unlessReset f).finish : Host.Outcome State Fault Refusal) = .next (f s).finish := by
  rw [State.unlessReset_released h]

/-- What arrives under RESET# has no effect. -/
theorem next_asserted {s : State} (h : s.resetAsserted = true) (f : State → State) :
    (.next (s.unlessReset f).finish : Host.Outcome State Fault Refusal) = .next s.finish := by
  rw [State.unlessReset_asserted h]

/-- An internal step that is due is taken. -/
theorem exec_of_ready {i : Instr} {w : Work} {s : State} (h : workOf i = some w) (hr : w.ready s = true) :
    exec i s = .next (w.perform s).finish := by
  rw [exec_of_workOf h, State.runWork, if_pos hr]

/-- An internal step that is not due does not happen. -/
theorem exec_of_not_ready {i : Instr} {w : Work} {s : State} (h : workOf i = some w) (hr : w.ready s = false) :
    exec i s = .next s.finish := by
  rw [exec_of_workOf h, State.runWork, hr]; rfl

theorem exec_restartMarkerArrival {s : State} (h : s.resetAsserted = false) (w0 w1 w2 : RxWord) :
    exec (.restartMarkerArrival w0 w1 w2) s = .next (s.restartArrives w0 w1 w2).finish :=
  next_released h _

theorem exec_claimFrameArrival {s : State} (h : s.resetAsserted = false) (w0 w1 w2 w3 : RxWord) :
    exec (.claimFrameArrival w0 w1 w2 w3) s = .next (s.enumArrives w0 w1 w2 w3).finish :=
  next_released h _

theorem exec_rollCallArrival {s : State} (h : s.resetAsserted = false) (w0 w1 w2 w3 : RxWord) :
    exec (.rollCallArrival w0 w1 w2 w3) s = .next (s.enumArrives w0 w1 w2 w3).finish :=
  next_released h _

/-! ### What is sent -/

theorem State.emit_lineWith (x : TrunkItem) (s : State) : s.emit x = { s with line := s.lineWith [x] } := State.emit_eq x s

@[simp] theorem State.lineWith_nil (s : State) : s.lineWith [] = s.line := by simp [State.lineWith]

/-- What is sent after other items follows them on the line. -/
theorem State.lineWith_append (s : State) (xs ys : List TrunkItem) :
    ({ s with line := s.lineWith xs } : State).lineWith ys = s.lineWith (xs ++ ys) := by
  by_cases h : s.outPort = .up <;> simp [State.lineWith, h]

theorem State.sendRestart_eq (s : State) :
    s.sendRestart =
      { s with line := s.lineWith [buildRestart s.tracker.serial], counters := (s.count .restartOriginated).counters } := by
  rw [State.sendRestart, State.emit_lineWith]
  rfl

/-- A node sends its CLAIM at the beginning of an attempt, unless its rank is 0 (R25). -/
theorem originated_drop_one (t : Tracker) : (originated t).drop 1 = if t.rank = 0 then [] else [buildClaim t.rank t.serial] := rfl

theorem restart_append_claim (t : Tracker) : [buildRestart t.serial] ++ (originated t).drop 1 = originated t := rfl

/-! ### Beginning an attempt (R25) -/

/-- The tracker as the beginning of an attempt leaves it (R25). -/
def Tracker.renewed (t : Tracker) : Tracker := { t with phase := .claiming, nodeId := none, role := .member, enumTimer := 0 }

theorem State.beginAttempt_eq (s : State) :
    s.beginAttempt = { s with tracker := s.tracker.renewed, line := s.lineWith ((originated s.tracker).drop 1) } := by
  rw [originated_drop_one, State.beginAttempt]
  split
  · rw [State.lineWith_nil]; rfl
  · exact State.emit_lineWith _ _

/-- A structure forwarded ahead of the beginning of an attempt. -/
theorem State.emit_beginAttempt (x : TrunkItem) (s : State) :
    (s.emit x).beginAttempt =
      { s with tracker := s.tracker.renewed, line := s.lineWith (x :: (originated s.tracker).drop 1) } := by
  rw [State.emit_lineWith, State.beginAttempt_eq]
  exact congrArg (fun l => { s with tracker := s.tracker.renewed, line := l }) (State.lineWith_append s [x] _)

/-- Originating a restart in ENUMERATING begins a new attempt behind the node's own marker, and no other block is told (R24, R25). -/
theorem State.originateRestart_enumerating {s : State} (h : s.tracker.tracking = .enumerating) :
    s.originateRestart =
      { s with
        tracker := s.tracker.renewed
        line := s.lineWith (originated s.tracker)
        counters := (s.count .restartOriginated).counters } := by
  rw [State.originateRestart, if_pos h, State.sendRestart_eq, State.beginAttempt_eq]
  exact congrArg (fun l => { s with
    tracker := s.tracker.renewed, line := l, counters := (s.count .restartOriginated).counters }) (State.lineWith_append s _ _)

/-! ### A ring restart (R19, R25) -/

theorem survivingMarks_eq (rs : List Reply) :
    survivingMarks rs = (rs.filter fun r => r.mark = some .nodeReset).map fun _ => Release.nodeReset := by
  induction rs with
  | nil => rfl
  | cons r rs ih =>
    rcases r with ⟨dest, tag, status, body, _ | _ | _⟩ <;> simpa [survivingMarks] using ih

/-- A ring restart handed to the blocks leaves them as the rules say. -/
theorem State.handRestart_restarted (s : State) : RingRestarted s s.handRestart where
  carry := rfl
  sending := rfl
  receiving := rfl
  liveA := rfl
  liveB := rfl
  rotation := rfl
  edits := rfl
  commit := rfl
  commitDue := rfl
  roundPlan := rfl
  planDue := rfl
  contexts := by
    show s.contexts.map holdContext = _
    congr 1; funext c
    unfold holdContext
    cases c.state <;> rfl
  filters := rfl
  drop := rfl
  claim := rfl
  replies := rfl
  work := rfl
  workDue := rfl
  answering := rfl
  releases := congrArg (s.responder.releases ++ ·) (survivingMarks_eq _)
  holder := rfl
  alloc := rfl
  capture := rfl
  overrun := rfl
  config := rfl
  table := rfl
  abandoned := rfl
  results := rfl
  notice := rfl
  transfer := rfl
  stalled := rfl
  lane := rfl
  outPort := rfl
  pin := rfl
  unknowns := rfl
  choice := rfl
  pending := rfl

/-- A ring restart of the node: `t` is `s` after an entry into ENUMERATING, with so many failed attempts, the structures
`items` sent and the counters as `counted`. -/
structure State.Restarts (s t : State) (failed : Nat) (items : List TrunkItem) (counted : Vector Counter 32) : Prop where
  blocks : RingRestarted s t
  inPort : t.inPort = s.inPort
  tracker : t.tracker = s.tracker.attempt failed
  sent : s.Sent t items
  events : t.events = s.events.raise s.config .ringRestarted
  counters : t.counters = counted

/-- The failed attempts of a node that enters ENUMERATING: none where it comes from ISOLATED (R35). -/
def Tracker.carriedFailures (t : Tracker) : Nat := if t.tracking = .isolated then 0 else t.failed

theorem Tracker.carriedFailures_of_ne {t : Tracker} (h : t.tracking ≠ .isolated) : t.carriedFailures = t.failed := if_neg h

/-- Entering ENUMERATING is a ring restart for every block, and the beginning of an attempt. -/
theorem State.enterEnumerating_restarts (s : State) :
    s.Restarts s.enterEnumerating s.tracker.carriedFailures ((originated s.tracker).drop 1) s.counters := by
  rw [State.enterEnumerating, State.beginAttempt_eq]
  exact
    { blocks := { State.handRestart_restarted s with }
      inPort := rfl
      tracker := rfl
      sent := rfl
      events := rfl
      counters := rfl }

/-- What is sent and counted ahead of a restart. -/
theorem State.Restarts.behind {s t : State} {n : Nat} {xs ys : List TrunkItem} {before counted : Vector Counter 32}
    (h : State.Restarts { s with line := s.lineWith xs, counters := before } t n ys counted) :
    s.Restarts t n (xs ++ ys) counted where
  blocks := { h.blocks with }
  inPort := h.inPort
  tracker := h.tracker
  sent := h.sent.trans (State.lineWith_append s xs ys)
  events := h.events
  counters := h.counters

/-- Forwarding a structure and entering ENUMERATING behind it. -/
theorem State.emit_enterEnumerating_restarts (s : State) (x : TrunkItem) :
    s.Restarts (s.emit x).enterEnumerating s.tracker.carriedFailures (x :: (originated s.tracker).drop 1) s.counters := by
  rw [State.emit_lineWith]
  exact (State.enterEnumerating_restarts { s with line := s.lineWith [x], counters := s.counters }).behind

/-- Originating a restart outside ENUMERATING. -/
theorem State.originateRestart_restarts {s : State} (h : s.tracker.tracking ≠ .enumerating) :
    s.Restarts s.originateRestart s.tracker.carriedFailures (originated s.tracker) (s.count .restartOriginated).counters := by
  rw [State.originateRestart, if_neg h, State.sendRestart_eq]
  exact State.Restarts.behind (State.enterEnumerating_restarts
    { s with line := s.lineWith [buildRestart s.tracker.serial], counters := (s.count .restartOriginated).counters })

end Sys2Proof.Machine
end

section
/-!
Steps and resets, the timers, and RESTART markers: O1 to O4, O6 to O13.
-/

namespace Sys2Proof.Machine

open Sys2Proof

/-! ### Steps (log entries 1 to 3) -/

/-- Settles O1. -/
theorem stepTakesFront : Obligations.StepTakesFront := by
  refine ⟨fun c rest s => rfl, fun s h => ?_⟩
  unfold step
  rw [h]

/-- The one step that is due is the one taken, whatever the choice. -/
theorem State.finish_of_due_one {s : State} {w : Work} (hn : s.nextIsInternal = false) (h : s.due = [w]) :
    s.finish = (w.perform s).settleFor 95 := by
  rw [State.finish, hn]
  show s.settleFor (95 + 1) = _
  rw [State.settleFor, h]
  simp [Nat.mod_one]

/-- Settles O2. -/
theorem finishTakesDueSteps : Obligations.FinishTakesDueSteps := by
  refine ⟨fun s i rest w hp hw => ?_, fun s => State.finish_of_due_nil, fun s w => State.finish_of_due_one,
    fun i w s => exec_of_not_ready⟩
  have hn : s.nextIsInternal = true := by rw [State.nextIsInternal, hp]; simp [hw]
  rw [State.finish, if_pos hn]

/-! ### Resets and the OUT port (R2, R172) -/

theorem State.hardReset_contexts (mrank : BitVec 2) (s : State) (i : Fin 16) : (s.hardReset mrank).contexts[i] = {} := by
  show (Vector.replicate 16 ({} : Context))[i.val] = {}
  simp

/-- No step is due at the hard-reset values. -/
theorem State.hardReset_not_ready (mrank : BitVec 2) (s : State) (w : Work) : w.ready (s.hardReset mrank) = false := by
  cases w with
  | staleAssembly i => exact congrArg Context.isStale (State.hardReset_contexts mrank s i)
  | insertDrained i => exact congrArg Context.drained (State.hardReset_contexts mrank s i)
  | _ => rfl

theorem State.hardReset_due (mrank : BitVec 2) (s : State) : (s.hardReset mrank).due = [] :=
  List.filter_eq_nil_iff.mpr fun w _ => by simp [State.hardReset_not_ready]

/-- Settles O3. -/
theorem hardResetValues : Obligations.HardResetValues := fun mrank s => by
  show Host.Outcome.next (s.hardReset mrank).finish = _
  rw [State.finish_of_due_nil (State.hardReset_due mrank s)]
  rfl

/-- Settles O4. -/
theorem outPortTrains : Obligations.OutPortTrains := by
  refine ⟨fun s h => ?_, fun s h => ?_, fun s h => ?_, fun s h => ?_, fun i s h hi => ?_⟩
  · show Host.Outcome.next s.releaseReset.finish = _
    rw [State.releaseReset, if_pos h]
  · show Host.Outcome.next s.releaseReset.finish = _
    rw [State.releaseReset, if_neg h]
  · show Host.Outcome.next s.outTrained.finish = _
    rw [State.outTrained, if_pos h]
  · show Host.Outcome.next s.outTrained.finish = _
    rw [State.outTrained, if_neg h]
  · rcases hi with rfl | ⟨sym, rfl⟩ | rfl | rfl | rfl | ⟨w0, w1, w2, rfl | rfl | rfl⟩ | ⟨w0, w1, w2, w3, rfl | rfl⟩ |
      ⟨c, rfl | rfl⟩ | ⟨m, rfl | rfl⟩ | ⟨w, rfl | rfl⟩ | rfl | rfl
    case inr.inr.inr.inr.inr.inr.inr.inr.inr.inr.inl =>
      show Host.Outcome.next s.takeStart.finish = _
      rw [State.takeStart, h]; rfl
    case inr.inr.inr.inr.inr.inr.inr.inr.inr.inr.inr =>
      show Host.Outcome.next s.takeEnd.finish = _
      rw [State.takeEnd, h]; rfl
    all_goals exact next_asserted h _

/-! ### Timers (R4, R10, R17, R20, R34) -/

theorem Tracker.tick_eq (t : Tracker) : t.tick =
    { t with
      missed := if t.tracking = .inRound then min 3 (t.missed + 1) else t.missed
      seekTimer := if t.tracking = .seeking then min 32 (t.seekTimer + 1) else t.seekTimer
      enumTimer := if t.tracking = .enumerating then min 32 (t.enumTimer + 1) else t.enumTimer
      retryTimer := if t.tracking = .isolated then min 4096 (t.retryTimer + 1) else t.retryTimer } := by
  obtain ⟨tracking⟩ := t
  cases tracking <;> rfl

/-- Settles O7. -/
theorem tickAdvances : Obligations.TickAdvances := fun s h =>
  (next_released h State.tickOver).trans (next_congr (congrArg (fun t => { s with tracker := t }) s.tracker.tick_eq))

/-- Settles O8. -/
theorem roundLoss : Obligations.RoundLoss := by
  intro i s hr hm hi
  have hrun : exec i s = .next s.roundLoss.finish := by
    rcases hi with ⟨rfl, hrole⟩ | ⟨rfl, hrole⟩
    · exact exec_of_ready (w := .missedRoundMember) rfl (by simp [Work.ready, State.inRound, State.isMaster, hr, hrole, Config.missedRoundLimit, hm])
    · exact exec_of_ready (w := .missedRoundMaster) rfl (by simp [Work.ready, State.inRound, State.isMaster, hr, hrole, Config.missedRoundLimit, hm])
  have hne : (s.raise .roundLost).tracker.tracking ≠ .enumerating := by simp [hr]
  have h := State.originateRestart_restarts hne
  have hf : s.tracker.carriedFailures = s.tracker.failed := Tracker.carriedFailures_of_ne (by simp [hr])
  exact ⟨_, hrun, { h.blocks with }, h.inPort, h.tracker.trans (congrArg _ hf), h.sent, h.events, h.counters⟩

/-- A failed attempt counted (R34). -/
def State.attemptFailed (s : State) : State :=
  { s.count .enumTimeout with tracker := { s.tracker with failed := s.tracker.failed + 1 } }

theorem State.enumerationTimeout_below {s : State} (h : s.tracker.failed + 1 < 4) :
    s.enumerationTimeout = s.attemptFailed.originateRestart := if_pos h

theorem State.enumerationTimeout_limit {s : State} (h : s.tracker.failed + 1 = 4) :
    s.enumerationTimeout = State.raise .isolated
      { s.attemptFailed with tracker := { s.tracker with
          failed := s.tracker.failed + 1, tracking := .isolated, phase := .none, nodeId := none, enumTimer := 0, retryTimer := 0 } } :=
  if_neg (show ¬ s.tracker.failed + 1 < 4 by omega)

/-- Settles O10. -/
theorem enumerationTimesOut : Obligations.EnumerationTimesOut := by
  intro s hk ht
  have hrun : exec .enumerationTimeout s = .next s.enumerationTimeout.finish :=
    exec_of_ready (w := .enumerationTimeout) rfl (by simp [Work.ready, hk, Config.enumerationLimit, ht])
  refine ⟨fun hf => hrun.trans (next_congr ?_), fun hf => hrun.trans (next_congr ?_)⟩
  · rw [State.enumerationTimeout_below hf, State.originateRestart_enumerating (s := s.attemptFailed) hk]
    rfl
  · rw [State.enumerationTimeout_limit hf, hf]
    rfl

/-! ### Restarts that the node originates (R22, R23, R27, R35) -/

/-- The tracker right after the node has entered DOWN (R22). -/
def Tracker.entersDown (t : Tracker) : Tracker :=
  { t with
    tracking := .down, nodeId := none, role := .member, missed := 0, phase := .none, enumTimer := 0, seekTimer := 0
    retryTimer := 0, failed := 0 }

/-- The link is lost and the node's marker has gone out; the blocks are told nothing yet. -/
def State.cutOff (s : State) : State :=
  { s with
    inPort := { s.inPort with link := .down }, rx := {}, tracker := s.tracker.entersDown
    line := s.lineWith [buildRestart s.tracker.serial], counters := ((s.count .linkDown).count .restartOriginated).counters }

theorem State.linkLost_eq (s : State) :
    s.linkLost = if s.inRound then (s.cutOff.raise .ringRestarted).handRestart else s.cutOff := by
  rw [State.linkLost, State.leaveUp, State.sendRestart_eq]
  rfl

/-- Settles O6. -/
theorem linkLossEntersDown : Obligations.LinkLossEntersDown := by
  intro i s hup hi
  have hrun : exec i s = .next s.linkLost.finish := by
    rcases hi with ⟨rfl, hreset⟩ | ⟨rfl, hrun⟩
    · refine (next_released hreset State.signalLost).trans (next_congr ?_)
      rw [State.signalLost, hup]
    · exact exec_of_ready (w := .errorRunLimit) rfl (by simp [Work.ready, hup, Config.errorRunLimit, hrun])
  refine ⟨_, hrun, ?_⟩
  rw [State.linkLost_eq]
  by_cases hr : s.tracker.tracking = .inRound
  · rw [if_pos (by simp [State.inRound, hr])]
    exact ⟨rfl, rfl, rfl, rfl, fun _ => ⟨{ State.handRestart_restarted s.cutOff with }, rfl⟩, fun h => absurd hr h⟩
  · rw [if_neg (by simp [State.inRound, hr])]
    exact ⟨rfl, rfl, rfl, rfl, fun h => absurd h hr, fun _ => rfl⟩

/-- A restart of a machine that differs in its tracker's failed attempts, its events or its counters only. -/
theorem restart_outcome {i : Instr} {s u t : State} {n : Nat} {items : List TrunkItem} {counted : Vector Counter 32}
    (hrun : exec i s = .next t.finish) (h : u.Restarts t n items counted) :
    ∃ t : State, exec i s = .next t.finish ∧ RingRestarted u t ∧ t.inPort = u.inPort ∧ t.tracker = u.tracker.attempt n ∧
      u.Sent t items ∧ t.events = u.events.raise u.config .ringRestarted ∧ t.counters = counted :=
  ⟨t, hrun, h.blocks, h.inPort, h.tracker, h.sent, h.events, h.counters⟩

/-- The machine with the released RESTART_RING taken off. -/
def State.ringReleased (s : State) : State :=
  { s with responder := { s.responder with releases := s.responder.releases.erase .restartRing } }

theorem exec_restartRingRelease {s : State} (ha : s.responder.applyDue = 0) (hm : Release.restartRing ∈ s.responder.releases) :
    exec .restartRingRelease s = .next s.ringReleased.restartReleased.finish :=
  exec_of_ready (w := .restartRelease) rfl (by simp [Work.ready, ha, hm])

/-- Settles O9. -/
theorem restartOriginated : Obligations.RestartOriginated := by
  refine ⟨fun i s u hi => ?_, fun s ha hm => ⟨fun hk => ?_, fun hk => ?_⟩⟩
  · rcases hi with ⟨rfl, hk, ht, rfl⟩ | ⟨rfl, hk, ht, rfl⟩ | ⟨rfl, hne, hdown, ha, hm, rfl⟩
    · exact restart_outcome (exec_of_ready (w := .seekTimeout) rfl (by simp [Work.ready, hk, Config.seekLimit, ht]))
        (State.originateRestart_restarts (by simp [hk]))
    · exact restart_outcome (exec_of_ready (w := .isolationRetry) rfl (by simp [Work.ready, hk, Config.isolationLimit, ht]))
        (State.originateRestart_restarts (by simp [hk]))
    · refine restart_outcome (u := s.ringReleased) ((exec_restartRingRelease ha hm).trans (next_congr (if_neg hdown)))
        (State.originateRestart_restarts hne)
  · exact (exec_restartRingRelease ha hm).trans (next_congr (if_pos hk))
  · refine (exec_restartRingRelease ha hm).trans (next_congr ?_)
    rw [State.restartReleased, if_neg (by simp [State.ringReleased, hk]), State.originateRestart_enumerating (s := s.ringReleased) hk]
    rfl

end Sys2Proof.Machine
end

section
/-!
RESTART markers (R26): O11 to O13.
-/

namespace Sys2Proof.Machine

open Sys2Proof

/-! ### Structures at a node that is not transparent, and markers between and inside rounds -/

theorem State.passOn_of_not_transparent {s : State} (x : TrunkItem) (hi : s.tracker.tracking ≠ .isolated)
    (hu : s.tracker.tracking ≠ .unnumbered) : s.passOn x = s := by
  simp [State.passOn, State.transparent, hi, hu]

theorem State.IsTransparent.passOn {s : State} (h : s.IsTransparent) (x : TrunkItem) : s.passOn x = s.emit x := by
  obtain ⟨-, h | h⟩ := h <;> simp [State.passOn, State.transparent, h]

theorem State.IsTransparent.not_inRound {s : State} (h : s.IsTransparent) : s.tracker.tracking ≠ .inRound := by
  obtain ⟨-, h | h⟩ := h <;> simp [h]

theorem State.inRound_eq_true_iff {s : State} : s.inRound = true ↔ s.tracker.tracking = .inRound := by simp [State.inRound]

theorem State.inRound_of {s : State} (h : s.tracker.tracking = .inRound) : s.inRound = true := State.inRound_eq_true_iff.mpr h

theorem State.not_inRound_of {s : State} (h : s.tracker.tracking ≠ .inRound) : s.inRound = false := by simp [State.inRound, h]

theorem State.isMaster_of {s : State} (h : s.tracker.role = .master) : s.isMaster = true := by simp [State.isMaster, h]

theorem State.not_isMaster_of {s : State} (h : s.tracker.role = .member) : s.isMaster = false := by simp [State.isMaster, h]

/-- Whether a run of data outside any structure has been counted is all that differs. -/
def State.withRun (b : Bool) (s : State) : State := { s with rx := { s.rx with outsideRun := b } }

theorem State.markerInside_elsewhere {s : State} (h : s.tracker.tracking ≠ .inRound) : s.markerInside = s := by
  simp [State.markerInside, State.not_inRound_of h]

theorem State.markerInside_outside {s : State} (hr : s.tracker.tracking = .inRound) (h : s.rx.phase = .outside) :
    s.markerInside = s.withRun false := by
  simp [State.markerInside, State.inRound_of hr, h, State.endRun, State.withRun]

theorem State.markerInside_absorbing {s : State} (hr : s.tracker.tracking = .inRound) (h : s.rx.phase = .absorbing) :
    s.markerInside = { s with rx := {} } := by
  simp [State.markerInside, State.inRound_of hr, h]

/-- The round in hand ended by a marker inside it, with its one framing fault (R8). -/
def State.roundCut (s : State) : State :=
  { s with rx := {}, tx := if s.tracker.role = .master then s.tx else {}, counters := (s.count .framingFault).counters }

theorem State.markerInside_inside {s : State} (hr : s.tracker.tracking = .inRound) (h : s.InsideRound) :
    s.markerInside = s.roundCut := by
  have hcut : s.roundCut = if s.isMaster then ({ s with rx := {} }).framingFault else ({ s with rx := {}, tx := {} }).framingFault := by
    cases hrole : s.tracker.role <;> simp [State.roundCut, State.isMaster, hrole] <;> rfl
  rw [State.markerInside, hcut, State.inRound_of hr]
  rcases h with h | h | h <;> rw [h] <;> rfl

/-! ### The words behind a RESTART marker -/

theorem State.restartWords_of_joins {s : State} (hk : s.tracker.tracking = .seeking ∨ s.tracker.tracking = .inRound)
    (w0 w1 w2 : RxWord) : s.restartWords w0 w1 w2 = s.restartJoins w0 w1 w2 := by
  rcases hk with hk | hk <;> simp [State.restartWords, hk]

theorem State.restartWords_renews {s : State} (hk : s.tracker.tracking = .enumerating) (w0 w1 w2 : RxWord) :
    s.restartWords w0 w1 w2 = s.restartRenews w0 w1 w2 := by
  rw [State.restartWords, hk]

/-- Another node's good marker is forwarded and is a ring restart. -/
theorem State.restartWords_other {s : State} {w0 w1 w2 : RxWord}
    (hk : s.tracker.tracking = .seeking ∨ s.tracker.tracking = .inRound) (hg : restartGood w0 w1 w2 = true)
    (hs : serialOf w0 w1 ≠ s.tracker.serial) :
    s.Restarts (s.restartWords w0 w1 w2) s.tracker.failed (.restart w0 w1 w2 :: (originated s.tracker).drop 1) s.counters := by
  have hf : s.tracker.carriedFailures = s.tracker.failed := Tracker.carriedFailures_of_ne (by rcases hk with hk | hk <;> simp [hk])
  rw [State.restartWords_of_joins hk, State.restartJoins, hg, if_neg (by simp), if_neg hs, ← hf]
  exact State.emit_enterEnumerating_restarts s _

/-- A damaged marker is replaced by a restart of the node's own. -/
theorem State.restartWords_damaged {s : State} {w0 w1 w2 : RxWord}
    (hk : s.tracker.tracking = .seeking ∨ s.tracker.tracking = .inRound) (hg : restartGood w0 w1 w2 = false) :
    s.Restarts (s.restartWords w0 w1 w2) s.tracker.failed (originated s.tracker)
      ((s.count .enumCheckFail).count .restartOriginated).counters := by
  have hf : s.tracker.carriedFailures = s.tracker.failed := Tracker.carriedFailures_of_ne (by rcases hk with hk | hk <;> simp [hk])
  rw [State.restartWords_of_joins hk, State.restartJoins, hg, if_pos (by simp), ← hf]
  have h := State.originateRestart_restarts (s := s.count .enumCheckFail) (by rcases hk with hk | hk <;> simp [hk])
  exact { blocks := { h.blocks with }, inPort := h.inPort, tracker := h.tracker, sent := h.sent, events := h.events, counters := h.counters }

/-- The node's own marker is absorbed. -/
theorem State.restartWords_own {s : State} {w0 w1 w2 : RxWord}
    (hk : s.tracker.tracking = .seeking ∨ s.tracker.tracking = .enumerating ∨ s.tracker.tracking = .inRound)
    (hg : restartGood w0 w1 w2 = true) (hs : serialOf w0 w1 = s.tracker.serial) : s.restartWords w0 w1 w2 = s := by
  rcases hk with hk | hk | hk <;> simp [State.restartWords, State.restartJoins, State.restartRenews, hk, hg, hs]

/-- In ISOLATED and UNNUMBERED any marker takes the node into ENUMERATING. -/
theorem State.IsTransparent.restartWords {s : State} (h : s.IsTransparent) (w0 w1 w2 : RxWord) :
    s.restartWords w0 w1 w2 = s.enterEnumerating := by
  obtain ⟨-, hk | hk⟩ := h <;> rw [State.restartWords, hk]

/-! ### A RESTART marker with its words -/

theorem State.restartArrives_of {s : State} (w0 w1 w2 : RxWord) (hi : s.tracker.tracking ≠ .isolated)
    (hu : s.tracker.tracking ≠ .unnumbered) : s.restartArrives w0 w1 w2 = s.markerInside.restartWords w0 w1 w2 := by
  rw [State.restartArrives, State.passOn_of_not_transparent _ hi hu]

/-- Between rounds, and outside IN_ROUND, the marker ends at most a run of data outside any structure. -/
theorem State.markerInside_between {s : State}
    (h : s.tracker.tracking = .seeking ∨ s.tracker.tracking = .inRound ∧ s.rx.phase = .outside) :
    s.markerInside = s.withRun (s.rx.outsideRun && !s.inRound) := by
  rcases h with h | ⟨hr, h⟩
  · rw [State.markerInside_elsewhere (by simp [h]), State.not_inRound_of (by simp [h]), Bool.not_false, Bool.and_true]; rfl
  · rw [State.markerInside_outside hr h, State.inRound_of hr, Bool.not_true, Bool.and_false]

theorem State.Restarts.of_withRun {s t : State} {b : Bool} {n : Nat} {items : List TrunkItem} {counted : Vector Counter 32}
    (h : (s.withRun b).Restarts t n items counted) : s.Restarts t n items counted :=
  { h with blocks := { h.blocks with } }

theorem not_transparent_of {k : Tracking} (h : k = .seeking ∨ k = .inRound) : k ≠ .isolated ∧ k ≠ .unnumbered := by
  rcases h with rfl | rfl <;> decide

/-- Settles O11. -/
theorem goodRestartMarker : Obligations.GoodRestartMarker := by
  intro w0 w1 w2 s hreset hg
  refine ⟨fun h hs => ?_, fun hk hs => ?_, fun hk hs => ?_, fun hk hph hs => ?_⟩
  · have hk : s.tracker.tracking = .seeking ∨ s.tracker.tracking = .inRound := h.imp id And.left
    obtain ⟨hi, hu⟩ := not_transparent_of hk
    refine restart_outcome (exec_restartMarkerArrival hreset w0 w1 w2) ?_
    rw [State.restartArrives_of w0 w1 w2 hi hu, State.markerInside_between h]
    exact State.Restarts.of_withRun (State.restartWords_other (s := s.withRun _) hk hg hs)
  · refine (exec_restartMarkerArrival hreset w0 w1 w2).trans (next_congr ?_)
    rw [State.restartArrives_of w0 w1 w2 (by simp [hk]) (by simp [hk]), State.markerInside_elsewhere (by simp [hk])]
    rw [State.restartWords_renews hk, State.restartRenews, hg, if_neg (by simp), if_neg hs, State.emit_beginAttempt]
    rfl
  · refine (exec_restartMarkerArrival hreset w0 w1 w2).trans (next_congr ?_)
    have hne : s.tracker.tracking ≠ .isolated ∧ s.tracker.tracking ≠ .unnumbered ∧ s.tracker.tracking ≠ .inRound := by
      rcases hk with hk | hk <;> simp [hk]
    rw [State.restartArrives_of w0 w1 w2 hne.1 hne.2.1, State.markerInside_elsewhere hne.2.2,
      State.restartWords_own (hk.imp id Or.inl) hg hs]
  · refine (exec_restartMarkerArrival hreset w0 w1 w2).trans (next_congr ?_)
    rw [State.restartArrives_of w0 w1 w2 (by simp [hk]) (by simp [hk]), State.markerInside_outside hk hph]
    exact State.restartWords_own (s := s.withRun false) (.inr (.inr hk)) hg hs

/-- Settles O12. -/
theorem damagedRestartMarker : Obligations.DamagedRestartMarker := by
  intro w0 w1 w2 s hreset hg
  refine ⟨fun h => ?_, fun hk => ?_⟩
  · have hk : s.tracker.tracking = .seeking ∨ s.tracker.tracking = .inRound := h.imp id And.left
    obtain ⟨hi, hu⟩ := not_transparent_of hk
    refine restart_outcome (exec_restartMarkerArrival hreset w0 w1 w2) ?_
    rw [State.restartArrives_of w0 w1 w2 hi hu, State.markerInside_between h]
    exact State.Restarts.of_withRun (State.restartWords_damaged (s := s.withRun _) hk hg)
  · refine (exec_restartMarkerArrival hreset w0 w1 w2).trans (next_congr ?_)
    rw [State.restartArrives_of w0 w1 w2 (by simp [hk]) (by simp [hk]), State.markerInside_elsewhere (by simp [hk])]
    rw [State.restartWords_renews hk, State.restartRenews, hg, if_pos (by simp),
      State.originateRestart_enumerating (s := s.count .enumCheckFail) hk]
    rfl

/-- A restart that follows on a round cut short. -/
theorem restart_outcome_cut {i : Instr} {s t : State} {n : Nat} {items : List TrunkItem} {counted : Vector Counter 32}
    (hrun : exec i s = .next t.finish) (h : s.roundCut.Restarts t n items counted) :
    ∃ t : State, exec i s = .next t.finish ∧ RingRestarted { s with rx := {} } t ∧ t.inPort = s.inPort ∧
      t.tracker = s.tracker.attempt n ∧ s.Sent t items ∧ t.events = s.events.raise s.config .ringRestarted ∧ t.counters = counted :=
  ⟨t, hrun, { h.blocks with }, h.inPort, h.tracker, h.sent, h.events, h.counters⟩

/-- Settles O13. -/
theorem restartMarkerElsewhere : Obligations.RestartMarkerElsewhere := by
  refine ⟨fun w0 w1 w2 s h => ?_, fun w0 w1 w2 s hrole hin => ?_, fun w0 w1 w2 s h hph => ?_⟩
  · refine restart_outcome (exec_restartMarkerArrival h.1 w0 w1 w2) ?_
    have ht : (s.emit (.restart w0 w1 w2)).IsTransparent := by rw [State.emit_lineWith]; exact h
    rw [State.restartArrives, h.passOn, State.markerInside_elsewhere ht.not_inRound, ht.restartWords]
    exact State.emit_enterEnumerating_restarts s _
  · have hr : s.tracker.tracking = .inRound := hrole.elim (·.2.1) (·.2.1)
    have hrun : exec (.restartMarkerArrival w0 w1 w2) s = .next (s.roundCut.restartWords w0 w1 w2).finish := by
      refine (exec_restartMarkerArrival (hrole.elim (·.1) (·.1)) w0 w1 w2).trans (next_congr ?_)
      rw [State.restartArrives_of w0 w1 w2 (by simp [hr]) (by simp [hr]), State.markerInside_inside hr hin]
    exact ⟨fun hg hs => restart_outcome_cut hrun (State.restartWords_other (.inr hr) hg hs),
      fun hg => restart_outcome_cut hrun (State.restartWords_damaged (.inr hr) hg),
      fun hg hs => hrun.trans (next_congr (State.restartWords_own (s := s.roundCut) (.inr (.inr hr)) hg hs))⟩
  · obtain ⟨hreset, hr, hrole⟩ := h
    refine (exec_restartMarkerArrival hreset w0 w1 w2).trans
      (.trans (next_congr ?_) (exec_restartMarkerArrival (s := { s with rx := {} }) hreset w0 w1 w2).symm)
    rw [State.restartArrives_of w0 w1 w2 (by simp [hr]) (by simp [hr]),
      State.restartArrives_of (s := { s with rx := {} }) w0 w1 w2 (by simp [hr]) (by simp [hr]),
      State.markerInside_absorbing hr hph, State.markerInside_outside (s := { s with rx := {} }) hr rfl]
    rfl

end Sys2Proof.Machine
end

section
/-!
Bit fields of words (12.1), and what the part makes of the fields of a frame or message that it forwards: O16, O28.
-/

namespace Sys2Proof.Machine

open Sys2Proof

/-! ### Bit fields -/

theorem testBit_bits (w : Word) (hi lo j : Nat) : (bits w hi lo).testBit j = (decide (j < hi - lo + 1) && w.getLsbD (lo + j)) := by
  rw [bits, Nat.testBit_mod_two_pow, Nat.testBit_shiftRight]; rfl

theorem getLsbD_field (hi lo v i : Nat) :
    (field hi lo v).getLsbD i = (decide (i < 32) && decide (lo ≤ i) && decide (i - lo < hi - lo + 1) && v.testBit (i - lo)) := by
  rw [field, BitVec.getLsbD_ofNat, Nat.testBit_shiftLeft, Nat.testBit_mod_two_pow]
  simp [Bool.and_assoc]

theorem bits_or (a b : Word) (hi lo : Nat) : bits (a ||| b) hi lo = bits a hi lo ||| bits b hi lo := by
  apply Nat.eq_of_testBit_eq
  intro j
  simp only [testBit_bits, Nat.testBit_or, BitVec.getLsbD_or, Bool.and_or_distrib_left]

theorem bits_lt (w : Word) (hi lo : Nat) : bits w hi lo < 2 ^ (hi - lo + 1) := Nat.mod_lt _ (Nat.two_pow_pos _)

/-- A field reads back what was put there. -/
theorem bits_field_same {hi lo v : Nat} (hlo : lo ≤ hi) (hhi : hi < 32) (hv : v < 2 ^ (hi - lo + 1)) : bits (field hi lo v) hi lo = v := by
  apply Nat.eq_of_testBit_eq
  intro j
  rw [testBit_bits, getLsbD_field]
  by_cases hj : j < hi - lo + 1
  · simp [hj, show lo + j < 32 by omega]
  · have : v.testBit j = false := Nat.testBit_lt_two_pow (lt_of_lt_of_le hv (Nat.pow_le_pow_right (by omega) (by omega)))
    simp [hj, this]

/-- A field has no bit outside its place. -/
theorem bits_field_apart {hi lo v hi' lo' : Nat} (h : hi < lo' ∨ hi' < lo) (hlo : lo ≤ hi) (hlo' : lo' ≤ hi') :
    bits (field hi lo v) hi' lo' = 0 := by
  apply Nat.eq_of_testBit_eq
  intro j
  rw [testBit_bits, getLsbD_field, Nat.zero_testBit]
  by_cases hj : j < hi' - lo' + 1
  · rcases h with h | h
    · simp [show ¬ (lo' + j - lo < hi - lo + 1) by omega]
    · simp [show ¬ (lo ≤ lo' + j) by omega]
  · simp [hj]

/-- The word with its bits `hi` down to `lo` cleared. -/
def clearField (hi lo : Nat) (w : Word) : Word := w &&& ~~~(field hi lo (2 ^ (hi - lo + 1) - 1))

theorem getLsbD_clearField (hi lo : Nat) (w : Word) (i : Nat) :
    (clearField hi lo w).getLsbD i = (w.getLsbD i && !(decide (lo ≤ i) && decide (i - lo < hi - lo + 1))) := by
  rw [clearField, BitVec.getLsbD_and, BitVec.getLsbD_not, getLsbD_field, Nat.testBit_two_pow_sub_one]
  by_cases hi : i < 32
  · simp [hi]
  · simp [BitVec.getLsbD_of_ge w i (by omega)]

theorem bits_clearField_same (hi lo : Nat) (w : Word) : bits (clearField hi lo w) hi lo = 0 := by
  apply Nat.eq_of_testBit_eq
  intro j
  rw [testBit_bits, getLsbD_clearField, Nat.zero_testBit]
  by_cases hj : j < hi - lo + 1 <;> simp [hj]

theorem bits_clearField_apart {hi lo hi' lo' : Nat} (h : hi < lo' ∨ hi' < lo) (hlo : lo ≤ hi) (hlo' : lo' ≤ hi') (w : Word) :
    bits (clearField hi lo w) hi' lo' = bits w hi' lo' := by
  apply Nat.eq_of_testBit_eq
  intro j
  rw [testBit_bits, testBit_bits, getLsbD_clearField]
  by_cases hj : j < hi' - lo' + 1
  · rcases h with h | h
    · simp [show ¬ (lo' + j - lo < hi - lo + 1) by omega]
    · simp [show ¬ (lo ≤ lo' + j) by omega]
  · simp [hj]

theorem clearField_field (hi lo v : Nat) : clearField hi lo (field hi lo v) = 0 := by
  apply BitVec.eq_of_getLsbD_eq
  intro i _
  rw [getLsbD_clearField, getLsbD_field]
  by_cases h : lo ≤ i <;> by_cases h' : i - lo < hi - lo + 1 <;> simp [h, h']

theorem clearField_clearField (hi lo : Nat) (w : Word) : clearField hi lo (clearField hi lo w) = clearField hi lo w := by
  apply BitVec.eq_of_getLsbD_eq
  intro i _
  simp only [getLsbD_clearField, Bool.and_assoc, Bool.and_self]

theorem clearField_or (hi lo : Nat) (a b : Word) : clearField hi lo (a ||| b) = clearField hi lo a ||| clearField hi lo b := by
  apply BitVec.eq_of_getLsbD_eq
  intro i _
  simp only [getLsbD_clearField, BitVec.getLsbD_or, Bool.and_or_distrib_right]

/-- Replacing a field changes that field only. -/
theorem clearField_replaced (hi lo v : Nat) (w : Word) : clearField hi lo (clearField hi lo w ||| field hi lo v) = clearField hi lo w := by
  rw [clearField_or, clearField_clearField, clearField_field]; exact BitVec.or_zero

theorem bits_replaced_same {hi lo v : Nat} (hlo : lo ≤ hi) (hhi : hi < 32) (hv : v < 2 ^ (hi - lo + 1)) (w : Word) :
    bits (clearField hi lo w ||| field hi lo v) hi lo = v := by
  rw [bits_or, bits_clearField_same, bits_field_same hlo hhi hv, Nat.zero_or]

theorem bits_replaced_apart {hi lo hi' lo' : Nat} (h : hi < lo' ∨ hi' < lo) (hlo : lo ≤ hi) (hlo' : lo' ≤ hi') (w : Word) (v : Nat) :
    bits (clearField hi lo w ||| field hi lo v) hi' lo' = bits w hi' lo' := by
  rw [bits_or, bits_clearField_apart h hlo hlo', bits_field_apart h hlo hlo', Nat.or_zero]

/-! ### Forwarded ROLL_CALL frames (R30) -/

theorem nextRollCallWord_eq (w : Word) : nextRollCallWord w = clearField 17 12 w ||| field 17 12 (bits w 17 12 + 1) := rfl

theorem crc32Good_fresh {ws : List RxWord} (h : ws.all (fun w => !w.bad) = true) : crc32Good ws (sendWord (crc32 (ws.map (·.value)))) = true := by
  simp [crc32Good, h, sendWord]

/-- Settles O16. -/
theorem forwardedRollCallFields : Obligations.ForwardedRollCallFields := by
  intro w0 w1 w2 w3 hg hkind hid
  have hnext : frameNextId { w0 with value := nextRollCallWord w0.value } = frameNextId w0 + 1 := by
    refine bits_replaced_same (by omega) (by omega) ?_ w0.value
    show frameNextId w0 + 1 < 64
    omega
  have hk : frameKind { w0 with value := nextRollCallWord w0.value } = frameKind w0 :=
    bits_replaced_apart (by omega) (by omega) (by omega) _ _
  have hr : frameRank { w0 with value := nextRollCallWord w0.value } = frameRank w0 :=
    bits_replaced_apart (by omega) (by omega) (by omega) _ _
  refine ⟨_, _, rfl, hnext, clearField_replaced 17 12 _ w0.value, ?_⟩
  have hsound : w0.bad = false ∧ w1.bad = false ∧ w2.bad = false := by
    simp only [enumGood, crc32Good, Bool.and_eq_true, List.all_cons, List.all_nil, Bool.not_eq_true'] at hg
    exact ⟨hg.1.1.1.1.1, hg.1.1.1.1.2.1, hg.1.1.1.1.2.2.1⟩
  have hrank : frameRank w0 ≠ 0 := by
    simp only [enumGood, Bool.and_eq_true, bne_iff_ne] at hg
    exact hg.1.2
  have hcrc := crc32Good_fresh (ws := [{ w0 with value := nextRollCallWord w0.value }, w1, w2]) (by simp [hsound])
  have hid' : frameNextId w0 + 1 ≤ 60 := by omega
  rw [enumGood, hk, hr, hnext, hkind]
  simp only [bne_iff_ne.mpr hrank, hid', decide_true, Bool.and_true, Nat.le_add_left]
  exact (Bool.and_true _).trans hcrc

/-! ### Forwarded messages (R130, R131) -/

theorem getLsbD_flag (k : Nat) (b : Bool) (hk : k < 32) (i : Nat) : (flag k b).getLsbD i = (b && decide (i = k)) := by
  cases b with
  | false => simp [flag]
  | true =>
    rw [flag, if_pos rfl, getLsbD_field, Bool.true_and]
    by_cases h : i = k
    · simp [h, hk]
    · simp only [h, decide_false, Bool.and_eq_false_iff, decide_eq_false_iff_not]
      omega

theorem bits_flag_apart {k hi lo : Nat} (b : Bool) (h : k < lo ∨ hi < k) (hlo : lo ≤ hi) : bits (flag k b) hi lo = 0 := by
  cases b with
  | false => simp [flag, bits]
  | true => exact bits_field_apart h le_rfl hlo

theorem forwardedMessage_head0 (m : RxMessage) (claim : Bool) :
    (forwardedMessage m claim).head0.value = clearField 10 4 m.head0.value ||| field 10 4 (msgHops m - 1) ||| flag 3 claim := rfl

/-- A field of the first header word other than the hop budget and CLAIMED is forwarded as it came. -/
theorem bits_forwardedMessage_apart (m : RxMessage) (claim : Bool) {hi lo : Nat} (hlo : lo ≤ hi) (h : 10 < lo ∨ hi < 3) :
    bits (forwardedMessage m claim).head0.value hi lo = bits m.head0.value hi lo := by
  rw [forwardedMessage_head0, bits_or, bits_flag_apart claim (by omega) hlo, Nat.or_zero,
    bits_replaced_apart (by omega) (by omega) hlo]

/-- The flags below the hop budget. -/
theorem bit_forwardedMessage (m : RxMessage) (claim : Bool) {i : Nat} (hi : i < 4) :
    bit (forwardedMessage m claim).head0.value i = (bit m.head0.value i || (claim && decide (i = 3))) := by
  rw [bit, forwardedMessage_head0, BitVec.getLsbD_or, BitVec.getLsbD_or, getLsbD_clearField, getLsbD_field, getLsbD_flag 3 claim (by omega)]
  simp [show ¬ (4 ≤ i) by omega, bit]

theorem map_value_sendWord (ws : List Word) : (ws.map sendWord).map (·.value) = ws := by
  rw [List.map_map, show ((·.value) ∘ sendWord) = id from rfl, List.map_id]

/-- Settles O28. -/
theorem forwardedMessageFields : Obligations.ForwardedMessageFields := by
  intro m claim hhops
  have hlt : msgHops m - 1 < 2 ^ (10 - 4 + 1) := lt_of_le_of_lt (Nat.sub_le _ _) (bits_lt m.head0.value 10 4)
  refine ⟨?_, bits_forwardedMessage_apart m claim (by omega) (by omega), bits_forwardedMessage_apart m claim (by omega) (by omega),
    bits_forwardedMessage_apart m claim (by omega) (by omega), bits_forwardedMessage_apart m claim (by omega) (by omega),
    ?_, ?_, bits_forwardedMessage_apart m claim (by omega) (by omega), rfl, map_value_sendWord _, sealMessage_good _ _ _⟩
  · show bits (forwardedMessage m claim).head0.value 10 4 = _
    rw [forwardedMessage_head0, bits_or, bits_flag_apart claim (by omega) (by omega), Nat.or_zero,
      bits_replaced_same (by omega) (by omega) hlt]
  · rw [msgClaimed, bit_forwardedMessage m claim (by omega)]; simp [msgClaimed]
  · rw [msgBounced, bit_forwardedMessage m claim (by omega)]; simp [msgBounced]

end Sys2Proof.Machine
end

section
/-!
Election and roll-call (chapter 2), round starts at the blocks, and round headers: O14, O15, O17 to O19.
-/

namespace Sys2Proof.Machine

open Sys2Proof

/-! ### Enumeration frames in ENUMERATING -/

theorem State.enumArrives_enumerating {s : State} (hk : s.tracker.tracking = .enumerating) (w0 w1 w2 w3 : RxWord) :
    s.enumArrives w0 w1 w2 w3 = if enumGood w0 w1 w2 w3 then s.enumFrameTaken w0 w1 w2 w3 else s.count .enumCheckFail := by
  rw [State.enumArrives, State.passOn_of_not_transparent _ (by simp [hk]) (by simp [hk]), State.markerInside_elsewhere (by simp [hk]),
    State.enumWords, hk]

theorem State.frameBetter_iff {s : State} {w0 w1 w2 : RxWord} :
    s.frameBetter w0 w1 w2 = true ↔ frameRank w0 < s.tracker.rank.toNat ∨
      frameRank w0 = s.tracker.rank.toNat ∧ s.tracker.serial.toNat < (serialOf w1 w2).toNat := by
  simp [State.frameBetter, betterCandidate]

/-- A CALLING node gives up the mastership; another has none to give up (R28, R30). -/
theorem State.giveUpMastership_eq (s : State) : s.giveUpMastership =
    { s with tracker :=
        if s.tracker.phase = .calling then { s.tracker with role := .member, nodeId := none, phase := .claiming } else s.tracker } := by
  by_cases h : s.tracker.phase = .calling <;> simp [State.giveUpMastership, h]

/-- Settles O14. -/
theorem claimFrameInElection : Obligations.ClaimFrameInElection := by
  intro w0 w1 w2 w3 s hreset hk
  have hrun := (exec_claimFrameArrival hreset w0 w1 w2 w3).trans (next_congr (State.enumArrives_enumerating hk w0 w1 w2 w3))
  refine ⟨fun hg => ?_, fun hg hkind => ?_⟩
  · rw [hrun, hg]; rfl
  · have htaken : exec (.claimFrameArrival w0 w1 w2 w3) s = .next (s.claimFrame w0 w1 w2 w3).finish := by
      rw [hrun, if_pos hg, State.enumFrameTaken, if_pos hkind]
    refine ⟨fun hr => htaken.trans (next_congr ?_), fun hr hs => htaken.trans (next_congr ?_), fun hr hs => htaken.trans (next_congr ?_)⟩
    · rw [State.claimFrame, if_pos hr, State.emit_lineWith]
    · rw [State.claimFrame, if_neg hr, if_pos hs, State.winElection, State.emit_lineWith]
      rfl
    · rw [State.claimFrame, if_neg hr, if_neg hs, State.giveUpMastership_eq, State.emit_lineWith]
      exact if_congr State.frameBetter_iff rfl rfl

/-- The node takes the next-ID of a ROLL_CALL (R30). -/
theorem State.takeNumber_numbered {s : State} {w0 : RxWord} (h : frameNextId w0 ≤ 59) (w1 w2 w3 : RxWord) :
    s.takeNumber w0 w1 w2 w3 =
      { s with
        tracker := { s.tracker with nodeId := some (frameNextId w0), role := .member, phase := .numbered }
        line := s.lineWith [forwardRollCall w0 w1 w2] } := by
  rw [State.takeNumber, if_pos (by omega), State.emit_lineWith]
  rfl

/-- A ROLL_CALL of next-ID 60 leaves the node UNNUMBERED (R30). -/
theorem State.takeNumber_overflow {s : State} {w0 : RxWord} (h : frameNextId w0 = 60) (w1 w2 w3 : RxWord) :
    s.takeNumber w0 w1 w2 w3 =
      { s with
        tracker := { s.tracker with
          tracking := .unnumbered, nodeId := none, role := .member, phase := .none, enumTimer := 0, failed := 0 }
        line := s.lineWith [.enumFrame w0 w1 w2 w3]
        events := s.events.raise s.config .unnumbered } := by
  rw [State.takeNumber, if_neg (by omega), State.enterUnnumbered, State.emit_lineWith]
  rfl

theorem exec_rollCall_good {s : State} {w0 w1 w2 w3 : RxWord} (hreset : s.resetAsserted = false)
    (hk : s.tracker.tracking = .enumerating) (hg : enumGood w0 w1 w2 w3 = true) (hkind : frameKind w0 = 2) :
    exec (.rollCallArrival w0 w1 w2 w3) s = .next (s.rollCallFrame w0 w1 w2 w3).finish := by
  refine (exec_rollCallArrival hreset w0 w1 w2 w3).trans (next_congr ?_)
  rw [State.enumArrives_enumerating hk, if_pos hg, State.enumFrameTaken, if_neg (by omega)]

/-- Settles O15. -/
theorem rollCallNumbersNode : Obligations.RollCallNumbersNode := by
  refine ⟨fun w0 w1 w2 w3 s hreset hk hph hg hkind hs => ?_, fun w0 w1 w2 w3 s hreset hk hph hg hkind hs => ?_,
    fun w0 w1 w2 w3 s hreset hk hg => ?_⟩
  · have hrun : exec (.rollCallArrival w0 w1 w2 w3) s = .next (s.takeNumber w0 w1 w2 w3).finish := by
      rw [exec_rollCall_good hreset hk hg hkind, State.rollCallFrame, if_neg hs, if_neg hph]
    exact ⟨fun hid => hrun.trans (next_congr (State.takeNumber_numbered hid w1 w2 w3)),
      fun hid => hrun.trans (next_congr (State.takeNumber_overflow hid w1 w2 w3))⟩
  · have hrun : exec (.rollCallArrival w0 w1 w2 w3) s =
        .next (if s.frameBetter w0 w1 w2 then s.giveUpMastership.takeNumber w0 w1 w2 w3 else s).finish := by
      rw [exec_rollCall_good hreset hk hg hkind, State.rollCallFrame, if_neg hs, if_pos hph]
    refine ⟨fun hb => ?_, fun hb hid => ?_, fun hb hid => ?_⟩
    · rw [hrun, if_neg (mt State.frameBetter_iff.mp hb)]
    · rw [hrun, if_pos (State.frameBetter_iff.mpr hb), State.giveUpMastership_eq, if_pos hph, State.takeNumber_numbered hid]
      rfl
    · rw [hrun, if_pos (State.frameBetter_iff.mpr hb), State.giveUpMastership_eq, if_pos hph, State.takeNumber_overflow hid]
      rfl
  · refine (exec_rollCallArrival hreset w0 w1 w2 w3).trans (next_congr ?_)
    rw [State.enumArrives_enumerating hk, hg]
    rfl

/-! ### A round start at the blocks (R6, R11) -/

theorem Context.ageRecord_eq (c : Context) : c.ageRecord =
    if c.state = .running ∧ c.config.direction = .dropSide then
      { c with assembly := c.assembly.map fun a => { a with age := min 64 (a.age + 1) } }
    else c := by
  simp [Context.ageRecord, Config.staleLimit]

/-- The round start handed to the blocks leaves them as the rules say. -/
theorem State.blockRoundStart_started (s : State) (first : Bool) :
    RoundStarted s (s.blockRoundStart first) s.tracker.round s.tracker.params.slotCount first where
  plan := by
    show (s.planStart).plan = _
    rw [State.planStart]
    cases hc : s.plan.commit <;> rfl
  contexts := congrArg s.contexts.map (funext Context.ageRecord_eq)
  responder := rfl
  table := rfl
  filters := rfl
  drop := rfl
  config := rfl
  port := rfl
  inPort := rfl
  outPort := rfl
  pin := rfl
  unknowns := rfl
  choice := rfl
  pending := rfl

/-- A round start at a member: `t` is `s` after the start of round n under the parameters p, with the header `item` sent. -/
structure State.MemberStarts (s t : State) (first : Bool) (n : RoundNo) (p : RoundParams) (item : TrunkItem) : Prop where
  blocks : RoundStarted s t n p.slotCount first
  tracker : t.tracker = { s.tracker with round := n, params := p, missed := 0 }
  sent : s.Sent t [item]
  events : t.events = { s.events with startDue := true }
  carry : t.carry = s.carry
  tx : t.tx = { active := true }
  rx : t.rx = { phase := .slots, slotCount := p.slotCount }
  counters : t.counters = s.counters

theorem State.memberStart_starts (s : State) (first : Bool) (n : RoundNo) (p : RoundParams) (item : TrunkItem) :
    s.MemberStarts (s.memberStart first n p item) first n p item := by
  rw [State.memberStart, State.emit_lineWith]
  exact
    { blocks := { State.blockRoundStart_started _ first with }
      tracker := rfl
      sent := rfl
      events := rfl
      carry := rfl
      tx := rfl
      rx := rfl
      counters := rfl }

/-- A round start at the master: the header of round n with what is carried into it (R11, R14). -/
structure State.MasterStarts (s t : State) (first : Bool) (n : RoundNo) (cells : List RxCell) (msgs : List RxMessage) : Prop where
  blocks : RoundStarted s t n s.tracker.params.slotCount first
  tracker : t.tracker = { s.tracker with round := n }
  sent : s.Sent t [buildHeader n s.tracker.params]
  events : t.events = { s.events with startDue := true }
  carry : t.carry = {}
  tx : t.tx = { active := true, carryCells := cells, carryMessages := msgs }
  rx : t.rx = s.rx
  counters : t.counters = s.counters

theorem State.emitHeader_starts (s : State) (first : Bool) (n : RoundNo) (cells : List RxCell) (msgs : List RxMessage) :
    s.MasterStarts (s.emitHeader first n cells msgs) first n cells msgs := by
  rw [State.emitHeader, State.emit_lineWith]
  exact
    { blocks := { State.blockRoundStart_started _ first with }
      tracker := rfl
      sent := rfl
      events := rfl
      carry := rfl
      tx := rfl
      rx := rfl
      counters := rfl }

/-- RING_UP at a round start, as the choice draws it (log entry 32). -/
theorem EventUnit.startUp_of (u : EventUnit) (c : NodeConfig) (n : Nat) :
    u.startUp (n % 2 == 0) c = if n % 2 = 0 then u.raise c .ringUp else { u with upDue := true } := by
  rw [EventUnit.startUp]
  exact if_congr beq_iff_eq rfl rfl

/-- Words in one period: 6.4 × P (R12). -/
theorem wordsPerPeriod_eq (p : Period) : wordsPerPeriod p = 64 * periodMicros p / 10 := by cases p <;> rfl

/-- Settles O17. -/
theorem rollCallReturns : Obligations.RollCallReturns := by
  intro w0 w1 w2 w3 s hreset hk hg hkind hs
  have hrun := exec_rollCall_good hreset hk hg hkind
  rw [State.rollCallFrame, if_pos hs] at hrun
  refine ⟨fun hph hcall => ?_, fun hno => hrun.trans (next_congr ?_)⟩
  · rw [if_pos (by simp [hph, hcall])] at hrun
    have h := State.emitHeader_starts
      (State.enterInRound { s with
        tracker := { s.tracker with params := effectiveParams s.config (frameNextId w0), round := 0 }, rx := {} }) true 0 [] []
    refine ⟨_, effectiveParams s.config (frameNextId w0), hrun, ?_, { h.blocks with }, h.tracker, h.sent, ?_, h.carry, h.tx, h.rx,
      h.counters⟩
    · rw [effectiveParams, wordsPerPeriod_eq]
    · refine h.events.trans (congrArg (fun u : EventUnit => { u with startDue := true }) ?_)
      exact EventUnit.startUp_of s.events s.config s.choice
  · exact if_neg (by simpa using hno)

end Sys2Proof.Machine
end

section
/-!
Enumeration frames outside ENUMERATING, transparency, and round headers at a node that is no master: O18, O19.
-/

namespace Sys2Proof.Machine

open Sys2Proof

/-! ### Enumeration frames outside ENUMERATING (R33) -/

theorem State.markerInside_frame (s : State) :
    s.markerInside.tracker = s.tracker ∧ s.markerInside.line = s.line ∧ s.markerInside.outPort = s.outPort := by
  by_cases hr : s.tracker.tracking = .inRound
  · cases hph : s.rx.phase
    case outside => rw [State.markerInside_outside hr hph]; exact ⟨rfl, rfl, rfl⟩
    case absorbing => rw [State.markerInside_absorbing hr hph]; exact ⟨rfl, rfl, rfl⟩
    case slots => rw [State.markerInside_inside hr (.inl hph)]; exact ⟨rfl, rfl, rfl⟩
    case openRegion => rw [State.markerInside_inside hr (.inr (.inl hph))]; exact ⟨rfl, rfl, rfl⟩
    case discarding => rw [State.markerInside_inside hr (.inr (.inr hph))]; exact ⟨rfl, rfl, rfl⟩
  · rw [State.markerInside_elsewhere hr]; exact ⟨rfl, rfl, rfl⟩

theorem State.enumFramePassed_eq (u : State) (w0 w1 w2 w3 : RxWord) : u.enumFramePassed w0 w1 w2 w3 =
    if enumGood w0 w1 w2 w3 = false then { u with counters := (u.count .enumCheckFail).counters }
    else if u.tracker.role = .master ∨ serialOf w1 w2 = u.tracker.serial then u
    else { u with line := u.lineWith [.enumFrame w0 w1 w2 w3] } := by
  rw [State.enumFramePassed, State.emit_lineWith]
  refine if_congr (by simp) rfl (if_congr (by simp [State.isMaster]) rfl rfl)

/-- A structure that a transparent node sends on and that has no other effect. -/
theorem State.due_of_line (s : State) (l : List TrunkItem) : ({ s with line := l } : State).due = s.due := rfl

/-- Either row of an enumeration frame. -/
theorem exec_enumFrame {i : Instr} {w0 w1 w2 w3 : RxWord} {s : State} (hreset : s.resetAsserted = false)
    (hi : i = .claimFrameArrival w0 w1 w2 w3 ∨ i = .rollCallArrival w0 w1 w2 w3) :
    exec i s = .next (s.enumArrives w0 w1 w2 w3).finish := by
  rcases hi with rfl | rfl
  · exact exec_claimFrameArrival hreset w0 w1 w2 w3
  · exact exec_rollCallArrival hreset w0 w1 w2 w3

/-- Either row of a round header (log entry 7). -/
theorem exec_roundHeader {i : Instr} {w0 w1 w2 : RxWord} {s : State} (hreset : s.resetAsserted = false)
    (hi : i = .roundHeaderArrival w0 w1 w2 ∨ i = .returningHeaderArrival w0 w1 w2) :
    exec i s = .next (s.headerArrives w0 w1 w2).finish := by
  rcases hi with rfl | rfl <;> exact next_released hreset _

theorem State.headerMarker_elsewhere {s : State} (h : s.tracker.tracking ≠ .inRound) : s.headerMarker = s := by
  simp [State.headerMarker, State.not_inRound_of h]

theorem State.seePeriod_eq (w0 w1 w2 : RxWord) (s : State) : s.seePeriod w0 w1 w2 =
    { s with tracker :=
        if headerGood w0 w1 w2 then { s.tracker with params := { s.tracker.params with period := (headerParams w0 w1).period } }
        else s.tracker } := by
  rw [State.seePeriod]; split <;> rfl

theorem State.IsTransparent.headerWords {s : State} (h : s.IsTransparent) (w0 w1 w2 : RxWord) :
    s.headerWords w0 w1 w2 = s.seePeriod w0 w1 w2 := by
  obtain ⟨-, h | h⟩ := h <;> rw [State.headerWords, h]

theorem State.IsTransparent.not_inRound_eq {s : State} (h : s.IsTransparent) : s.inRound = false :=
  State.not_inRound_of h.not_inRound

/-- A structure that a transparent node sends on, and no more (R5). -/
theorem State.IsTransparent.passes {s : State} (h : s.IsTransparent) {f : State → State} {x : TrunkItem}
    (hf : f s = s.passOn x) :
    (.next (s.unlessReset f).finish : Host.Outcome State Fault Refusal) = .next (State.finish { s with line := s.lineWith [x] }) := by
  rw [State.unlessReset_released h.1, hf, h.passOn, State.emit_lineWith]

/-- Settles O18. -/
theorem enumerationFrameElsewhere : Obligations.EnumerationFrameElsewhere := by
  refine ⟨fun i w0 w1 w2 w3 s hreset hi => ⟨fun hk => ?_, fun hk => ?_, fun ht => ?_⟩, fun s ht => ⟨?_, ?_, ?_, ?_⟩⟩
  · refine restart_outcome (exec_enumFrame hreset hi) ?_
    rw [State.enumArrives, State.passOn_of_not_transparent _ (by simp [hk]) (by simp [hk]), State.markerInside_elsewhere (by simp [hk]),
      State.enumWords, hk, ← Tracker.carriedFailures_of_ne (t := s.tracker) (by simp [hk])]
    exact State.originateRestart_restarts (by simp [hk])
  · obtain ⟨htracker, hline, hout⟩ := s.markerInside_frame
    refine ⟨s.markerInside, State.markerInside_outside hk, State.markerInside_absorbing hk, State.markerInside_inside hk,
      (exec_enumFrame hreset hi).trans (next_congr ?_)⟩
    rw [State.enumArrives, State.passOn_of_not_transparent _ (by simp [hk]) (by simp [hk]), State.enumWords, htracker, hk]
    have hlw : s.markerInside.lineWith [.enumFrame w0 w1 w2 w3] = s.lineWith [.enumFrame w0 w1 w2 w3] := by
      simp only [State.lineWith, hline, hout]
    rw [← hlw, ← htracker]
    exact State.enumFramePassed_eq _ w0 w1 w2 w3
  · refine (exec_enumFrame hreset hi).trans (next_congr ?_)
    have hte : (s.emit (.enumFrame w0 w1 w2 w3)).IsTransparent := by rw [State.emit_lineWith]; exact ht
    rw [State.enumArrives, ht.passOn, State.markerInside_elsewhere hte.not_inRound, State.enumWords, ← State.emit_lineWith]
    obtain ⟨-, hk | hk⟩ := hte <;> rw [hk]
  · intro i w0 w1 w2 hi hdue
    refine (exec_roundHeader ht.1 hi).trans (next_congr ?_)
    have hte : ({ s with line := s.lineWith [.header w0 w1 w2] } : State).IsTransparent := ht
    rw [State.headerArrives, ht.passOn, State.emit_lineWith, State.headerMarker_elsewhere hte.not_inRound,
      State.settle_of_due_nil (s.due_of_line _ ▸ hdue), hte.headerWords, State.seePeriod_eq]
  · rintro i c (rfl | rfl)
    · exact ht.passes (f := fun s => if s.inRound && s.isMaster then s.carrySlot else s.cellArrives c)
        (by simp [ht.not_inRound_eq, State.cellArrives])
    · exact ht.passes (by simp [ht.not_inRound_eq, State.cellArrives])
  · rintro i m (rfl | rfl)
    · exact ht.passes (f := fun s => if s.inRound && s.isMaster then s.carryMessage else s.messageArrives m)
        (by simp [ht.not_inRound_eq, State.messageArrives])
    · exact ht.passes (by simp [ht.not_inRound_eq, State.messageArrives])
  · rintro i w (rfl | rfl)
    · exact ht.passes (f := fun s => if s.inRound && s.isMaster then s.closeEmission else s.trailerArrives w)
        (by simp [ht.not_inRound_eq, State.trailerArrives])
    · exact ht.passes (by simp [ht.not_inRound_eq, State.trailerArrives])

/-! ### Round headers at a node that is no master (R6, R7, R23, R32) -/

/-- A header between rounds, or outside IN_ROUND, is handled where nothing is due. -/
theorem State.headerArrives_elsewhere {s : State} (w0 w1 w2 : RxWord) (hi : s.tracker.tracking ≠ .isolated)
    (hu : s.tracker.tracking ≠ .unnumbered) (hr : s.tracker.tracking ≠ .inRound) (hdue : s.due = []) :
    s.headerArrives w0 w1 w2 = s.headerWords w0 w1 w2 := by
  rw [State.headerArrives, State.passOn_of_not_transparent _ hi hu, State.headerMarker_elsewhere hr, State.settle_of_due_nil hdue]

theorem State.IsMemberInRound.headerArrives {s : State} (h : s.IsMemberInRound) (hph : s.rx.phase = .outside)
    (hdue : s.heard.due = []) (w0 w1 w2 : RxWord) : s.headerArrives w0 w1 w2 = s.heard.memberHeader w0 w1 w2 := by
  obtain ⟨-, hr, hrole⟩ := h
  have hmarker : s.headerMarker = s.heard := by
    simp [State.headerMarker, State.inRound_of hr, State.not_isMaster_of hrole, State.memberFinish, hph, State.heard]
  rw [State.headerArrives, State.passOn_of_not_transparent _ (by simp [hr]) (by simp [hr]), hmarker, State.settle_of_due_nil hdue,
    State.headerWords, show s.heard.tracker.tracking = .inRound from hr, State.not_isMaster_of (s := s.heard) hrole]
  rfl

/-- A round start at a member in hand of whose header something has been counted. -/
theorem State.MemberStarts.of_heard {s t : State} {first : Bool} {n : RoundNo} {p : RoundParams} {item : TrunkItem}
    {counted : Vector Counter 32} (h : State.MemberStarts { s.heard with counters := counted } t first n p item) :
    RoundStarted s t n p.slotCount first ∧ t.tracker = { s.tracker with round := n, params := p, missed := 0 } ∧
      s.Sent t [item] ∧ t.events = { s.events with startDue := true } ∧ t.carry = s.carry ∧ t.tx = { active := true } ∧
      t.rx = { phase := .slots, slotCount := p.slotCount } ∧ t.counters = counted :=
  ⟨{ h.blocks with }, h.tracker, h.sent, h.events, h.carry, h.tx, h.rx, h.counters⟩

theorem State.memberHeader_good {s : State} {w0 w1 w2 : RxWord} (hg : headerGood w0 w1 w2 = true) :
    s.heard.memberHeader w0 w1 w2 =
      State.memberStart false (headerRound w0) (headerParams w0 w1) (.header w0 w1 w2)
        { s.heard with counters := (if headerRound w0 = s.tracker.round + 1 then s else s.count .roundSkip).counters } := by
  refine (if_pos hg).trans (congrArg (State.memberStart false (headerRound w0) (headerParams w0 w1) (.header w0 w1 w2)) ?_)
  by_cases hn : headerRound w0 = s.tracker.round + 1
  · rw [if_pos hn]; exact if_pos hn
  · rw [if_neg hn]; exact if_neg hn

theorem State.memberHeader_damaged {s : State} {w0 w1 w2 : RxWord} (hg : headerGood w0 w1 w2 = false) :
    s.heard.memberHeader w0 w1 w2 =
      State.memberStart false (s.tracker.round + 1) s.tracker.params (buildHeader (s.tracker.round + 1) s.tracker.params)
        { s.heard with counters := (s.count .headerCheckFail).counters } := by
  rw [State.memberHeader, if_neg (by simp [hg])]
  rfl

/-- Settles O19. -/
theorem memberRoundStart : Obligations.MemberRoundStart := by
  intro i w0 w1 w2 s hi hreset
  have hrun := exec_roundHeader hreset hi
  have hwords (hk : s.tracker.tracking = .enumerating ∨ s.tracker.tracking = .seeking) (hdue : s.due = []) :
      exec i s = .next (s.headerWords w0 w1 w2).finish := by
    rw [hrun, State.headerArrives_elsewhere w0 w1 w2 (by rcases hk with hk | hk <;> simp [hk]) (by rcases hk with hk | hk <;> simp [hk])
      (by rcases hk with hk | hk <;> simp [hk]) hdue]
  refine ⟨fun hm hph hdue => ?_, fun hk hdue => ?_, fun hk hdue => ?_⟩
  · rw [hm.headerArrives hph hdue] at hrun
    by_cases hg : headerGood w0 w1 w2 = true
    · rw [State.memberHeader_good hg] at hrun
      simp only [hg, if_true]
      exact ⟨_, _, _, hrun, rfl, rfl, (State.memberStart_starts _ _ _ _ _).of_heard⟩
    · rw [Bool.not_eq_true] at hg
      rw [State.memberHeader_damaged hg] at hrun
      simp only [hg, Bool.false_eq_true, if_false]
      exact ⟨_, _, _, hrun, rfl, rfl, (State.memberStart_starts _ _ _ _ _).of_heard⟩
  · have hrun' : exec i s = .next (s.enumeratingHeader w0 w1 w2).finish := by rw [hwords (.inl hk) hdue, State.headerWords, hk]
    refine ⟨fun hg hnum => ?_, fun hg hnum => ?_, fun hg => ?_⟩
    · rw [State.enumeratingHeader, hg, if_neg (by simp), if_pos hnum] at hrun'
      have h := State.memberStart_starts s.enterInRound true (headerRound w0) (headerParams w0 w1) (.header w0 w1 w2)
      refine ⟨_, hrun', { h.blocks with }, h.tracker, h.sent, ?_, h.carry, h.tx, h.rx, h.counters⟩
      exact h.events.trans (congrArg (fun u : EventUnit => { u with startDue := true }) (EventUnit.startUp_of s.events s.config s.choice))
    · rw [State.enumeratingHeader, hg, if_neg (by simp), if_neg hnum, State.seePeriod_eq, if_pos hg] at hrun'
      refine hrun'.trans (next_congr ((State.originateRestart_enumerating ?_).trans ?_))
      · exact hk
      · simp only [hg, if_true]
        rfl
    · rw [State.enumeratingHeader, hg, if_pos (by simp)] at hrun'
      exact hrun'
  · have hrun' : exec i s = .next (s.seePeriod w0 w1 w2).originateRestart.finish := by
      rw [hwords (.inr hk) hdue, State.headerWords, hk]
    rw [State.seePeriod_eq] at hrun'
    have hseen : (if headerGood w0 w1 w2 then { s.tracker with params := { s.tracker.params with period := (headerParams w0 w1).period } }
        else s.tracker) = { s.tracker with params := { s.tracker.params with
          period := if headerGood w0 w1 w2 then (headerParams w0 w1).period else s.tracker.params.period } } := by
      split <;> rfl
    rw [hseen] at hrun'
    have h := State.originateRestart_restarts (s := { s with tracker := { s.tracker with params := { s.tracker.params with
      period := if headerGood w0 w1 w2 then (headerParams w0 w1).period else s.tracker.params.period } } }) (by simp [hk])
    rw [Tracker.carriedFailures_of_ne (by simp [hk])] at h
    exact ⟨_, hrun', { h.blocks with }, h.inPort, h.tracker, h.sent, h.events, h.counters⟩

end Sys2Proof.Machine
end

section
/-!
Slots (chapter 4) and what a drop-side context makes of a cell (5.3): O20 to O23, O25.
-/

namespace Sys2Proof.Machine

open Sys2Proof

/-! ### A slot event at a member -/

theorem State.processSlot_lineWith (a : PlanEntry) (c : RxCell) (s : State) (xs : List TrunkItem) :
    (s.processSlot a c).2.lineWith xs = s.lineWith xs := by
  rw [State.processSlot_frame]; rfl

/-- Slot k handled whole: what the action leaves, with its one cell sent on. -/
theorem State.handleSlot_eq (k : Nat) (c : RxCell) (s : State) :
    s.handleSlot k c =
      { (s.processSlot (s.slotAction k) c).2 with line := s.lineWith [.cell (s.processSlot (s.slotAction k) c).1] } := by
  rw [← State.processSlot_lineWith (s.slotAction k) c s]
  exact State.emit_lineWith _ _

/-- Either row of a cell at a member (log entry 7). -/
theorem State.IsMemberInRound.exec_cell {s : State} (h : s.IsMemberInRound) {i : Instr} {c : RxCell}
    (hi : i = .slotEvent c ∨ i = .returningCellArrival c) : exec i s = .next (s.memberSlot c).finish := by
  obtain ⟨hreset, hr, hrole⟩ := h
  have hcell : s.cellArrives c = s.memberSlot c := by
    rw [State.cellArrives, State.inRound_of hr, State.not_isMaster_of hrole]; rfl
  rcases hi with rfl | rfl
  · refine (next_released hreset (fun s => if s.inRound && s.isMaster then s.carrySlot else s.cellArrives c)).trans (next_congr ?_)
    rw [State.inRound_of hr, State.not_isMaster_of hrole]
    exact hcell
  · exact (next_released hreset _).trans (next_congr hcell)

/-- Settles O20. -/
theorem memberSlotEvent : Obligations.MemberSlotEvent := by
  intro i c s hi hm hph
  have hrun : exec i s = .next (({ s with rx := s.rx.nextSlot } : State).handleSlot s.rx.slots c).finish := by
    rw [hm.exec_cell hi, State.memberSlot, hph]
  rw [State.handleSlot_eq] at hrun
  have haction : ({ s with rx := s.rx.nextSlot } : State).slotAction s.rx.slots = s.slotAction s.rx.slots := rfl
  rw [haction] at hrun
  refine ⟨⟨_, rfl, hrun⟩, fun ha => ?_, fun ha => ?_⟩
  · rw [hrun, ha]; rfl
  · rw [hrun, ha]
    refine next_congr ?_
    by_cases hb : cellTag c ≠ 0 ∨ cellCodingError c = true
    · have hb' : (cellCodingError c || cellTag c != 0) = true := by simpa [or_comm] using hb
      simp only [State.processSlot, State.blankSlot, if_pos hb, if_pos hb']
      rfl
    · have hb' : (cellCodingError c || cellTag c != 0) = false := by simpa [and_comm] using hb
      simp only [State.processSlot, State.blankSlot, if_neg hb, hb', Bool.false_eq_true, if_false]
      rfl

/-! ### What a slot sends and touches (R57) -/

theorem State.dropSlot_sends (i : Fin 16) (tap : Bool) (c : RxCell) (s : State) :
    (s.dropSlot i tap c).1 = c ∨ (s.dropSlot i tap c).1 = idleCell := by
  simp only [State.dropSlot, State.dropCell]
  repeat' split
  all_goals simp

theorem State.insertSlot_sends (i : Fin 16) (c : RxCell) (s : State) :
    (s.insertSlot i c).1 = c ∨
      cellTag c = 0 ∧ cellDamaged c = false ∧ s.contexts[i].arrive.hasCell = true ∧ (s.insertSlot i c).1 = s.contexts[i].arrive.nextCell := by
  simp only [State.insertSlot, State.insertCell, State.mapCtx_same]
  repeat' split
  all_goals simp_all

/-- Context j is in `t` as it is in `s`. -/
def State.SameCtx (j : Fin 16) (s t : State) : Prop := t.contexts[j] = s.contexts[j]

theorem State.offer_other {i j : Fin 16} (h : i ≠ j) (a : Assembly) (s : State) : s.SameCtx j (s.offer i a) := by
  unfold State.offer
  dsimp only
  split
  · split
    · rw [State.SameCtx, State.raise_contexts]; exact State.mapCtx_other _ i j _ h
    · exact State.mapCtx_other _ i j _ h
  · rw [State.SameCtx, State.raise_contexts]; exact State.mapCtx_other _ i j _ h

theorem State.deliver_other {i j : Fin 16} (h : i ≠ j) (tap : Bool) (c : RxCell) (s : State) : s.SameCtx j (s.deliver i tap c).2 := by
  unfold State.deliver
  dsimp only
  cases (s.contexts[i].receive s.filters s.tracker.round tap c).2.2 with
  | none => exact State.mapCtx_other _ i j _ h
  | some a => exact (State.offer_other h a _).trans (State.mapCtx_other _ i j _ h)

theorem State.dropSlot_other {i j : Fin 16} (h : i ≠ j) (tap : Bool) (c : RxCell) (s : State) : s.SameCtx j (s.dropSlot i tap c).2 := by
  unfold State.dropSlot State.dropCell
  split
  · rfl
  · split
    · split
      · rw [State.damagedDrop, State.SameCtx, State.raise_contexts]; exact State.mapCtx_other _ i j _ h
      · split
        · rfl
        · split
          · exact State.mapCtx_other _ i j _ h
          · dsimp only
            split <;> exact State.deliver_other h tap c s
    · rfl

theorem State.insertCell_other {i j : Fin 16} (h : i ≠ j) (c : RxCell) (s : State) : s.SameCtx j (s.insertCell i c).2 := by
  unfold State.insertCell
  dsimp only
  split
  · rfl
  · split
    · split
      · exact State.mapCtx_other _ i j _ h
      · split
        · exact State.mapCtx_other _ i j _ h
        · rfl
    · split
      · rw [State.SameCtx, State.raise_contexts]; exact State.mapCtx_other _ i j _ h
      · rfl

theorem State.insertSlot_other {i j : Fin 16} (h : i ≠ j) (c : RxCell) (s : State) : s.SameCtx j (s.insertSlot i c).2 := by
  unfold State.insertSlot
  split
  · rfl
  · split
    · exact (State.insertCell_other h c _).trans (State.mapCtx_other _ i j _ h)
    · rfl

/-- Settles O21. -/
theorem slotSendsOneOfThree : Obligations.SlotSendsOneOfThree := by
  intro a c out s t h
  obtain ⟨rfl, rfl⟩ : (s.processSlot a c).1 = out ∧ (s.processSlot a c).2 = t := by rw [h]; exact ⟨rfl, rfl⟩
  refine ⟨?_, State.processSlot_frame a c s, fun j htap hdrop hinsert => ?_⟩
  · cases a with
    | pass => exact .inl rfl
    | follow => exact .inl rfl
    | blank => exact .inr (.inl rfl)
    | tap i => exact (State.dropSlot_sends i true c s).imp id Or.inl
    | drop i => exact (State.dropSlot_sends i false c s).imp id Or.inl
    | insert i =>
      refine (State.insertSlot_sends i c s).imp id fun ⟨htag, hdam, hcell, hout⟩ => .inr ⟨htag, hdam, i, rfl, hcell, hout⟩
  · cases a with
    | pass => rfl
    | follow => rfl
    | blank => simp only [State.processSlot, State.blankSlot]; split <;> rfl
    | tap i => exact State.dropSlot_other (mt (congrArg PlanEntry.tap) htap) true c s
    | drop i => exact State.dropSlot_other (mt (congrArg PlanEntry.drop) hdrop) false c s
    | insert i => exact State.insertSlot_other (mt (congrArg PlanEntry.insert) hinsert) c s

/-! ### TAP and DROP slots (R62 to R67) -/

theorem State.processSlot_dropSlot {a : PlanEntry} {i : Fin 16} (h : a = .tap i ∨ a = .drop i) (c : RxCell) (s : State) :
    ∃ tap : Bool, s.processSlot a c = s.dropSlot i tap c := by
  rcases h with rfl | rfl
  · exact ⟨true, rfl⟩
  · exact ⟨false, rfl⟩

theorem Context.dropEligible_of {c : Context} (h : c.state = .armed ∨ c.state = .running) : c.dropEligible = true := by
  rcases h with h | h <;> simp [Context.dropEligible, h]

theorem Context.not_dropEligible_of {c : Context} (h : c.state = .idle ∨ c.state = .held) : c.dropEligible = false := by
  rcases h with h | h <;> simp [Context.dropEligible, h]

theorem State.dropSlot_eligible {s : State} {i : Fin 16} (hd : s.contexts[i].config.direction = .dropSide)
    (hs : s.contexts[i].state = .armed ∨ s.contexts[i].state = .running) (tap : Bool) (c : RxCell) :
    s.dropSlot i tap c = s.dropCell i tap c := by
  rw [State.dropSlot, if_neg (not_not_intro hd), if_pos (Context.dropEligible_of hs)]

/-- What a check failure leaves of an eligible context (R67, R88). -/
theorem Context.checkFailure_counted (c : Context) : (c.count .checkFail).checkFailure =
    if c.state = .armed then { c.count .checkFail with seq := none }
    else { c.count .checkFail with seq := none, assembly := none, resync := true } := rfl

/-- Settles O22. -/
theorem dropSlotWithoutDelivery : Obligations.DropSlotWithoutDelivery := by
  intro a i c s ha
  obtain ⟨tap, hrun⟩ := State.processSlot_dropSlot ha c s
  rw [hrun]
  refine ⟨fun hd => if_pos hd, fun hd => ⟨fun hs => ?_, fun hs => ?_⟩⟩
  · rw [State.dropSlot, if_neg (not_not_intro hd), Context.not_dropEligible_of hs]
    rfl
  · rw [State.dropSlot_eligible hd hs]
    refine ⟨fun hc => ?_, fun hc ht => ?_, fun hc ht hm => ?_⟩
    · exact if_pos hc
    · rw [State.dropCell, hc, if_neg (by simp), if_pos ht]
    · rw [State.dropCell, hc, if_neg (by simp), if_neg ht, if_pos hm]
      rfl

/-! ### Deliveries (R64 to R66, R82 to R86) -/

theorem State.dropCell_matching {i : Fin 16} {c : RxCell} {s : State} (hc : cellDamaged c = false) (ht : cellTag c ≠ 0)
    (hm : cellTag c = s.contexts[i].config.tag.toNat) (tap : Bool) :
    s.dropCell i tap c =
      if !tap && (s.deliver i tap c).1 then (idleCell, (s.deliver i tap c).2.count .cellsRemoved) else (c, (s.deliver i tap c).2) := by
  rw [State.dropCell, hc, if_neg (by simp), if_neg ht, if_neg (not_not_intro hm)]

theorem beginsRecord_iff {c : RxCell} : beginsRecord c = true ↔ bits c.header.value 21 20 = 0 ∨ bits c.header.value 21 20 = 3 := by
  simp [beginsRecord, cellBoundary]

theorem effectiveFill_eq (f : Nat) : effectiveFill f = if 1 ≤ f ∧ f ≤ 24 then f else 24 := by
  simp [effectiveFill]

/-- The comparison of the sequence number (R83). -/
theorem Context.sequence_eq (x : Context) (q : BitVec 3) :
    x.sequence q =
      if ∃ e : BitVec 3, x.seq = some e ∧ e + 1 ≠ q + 1 then
        { x.count .seqGap with assembly := none, resync := true, seq := some (q + 1) }
      else { x with seq := some (q + 1) } := by
  unfold Context.sequence
  cases hs : x.seq with
  | none => simp
  | some e =>
    by_cases he : e = q
    · simp [he]
    · simp [he, Context.resynchronise]

theorem Context.receive_armed {x : Context} (h : x.state = .armed) (fs : Vector FilterUnit 8) (n : RoundNo) (tap : Bool) (c : RxCell) :
    x.receive fs n tap c =
      if beginsRecord c then
        ({ x.count .cells with seq := some (cellSeq c + 1), state := .running } : Context).beginRecord fs n tap c
      else ({ x.count .cells with seq := some (cellSeq c + 1) }, true, none) :=
  if_pos h

theorem Context.receive_running {x : Context} (h : x.state = .running) (fs : Vector FilterUnit 8) (n : RoundNo) (tap : Bool) (c : RxCell) :
    x.receive fs n tap c =
      if beginsRecord c then ((x.count .cells).sequence (cellSeq c)).beginRecord fs n tap c
      else ((x.count .cells).sequence (cellSeq c)).continueRecord tap c :=
  if_neg (show ¬ x.state = .armed by rw [h]; decide)

/-- A record in assembly when another begins (R84). -/
def Context.begun (x : Context) : Context :=
  if x.assembly = none then x else { x.count .seqGap with assembly := none, resync := true }

theorem Context.beginRecord_eq (x : Context) (fs : Vector FilterUnit 8) (n : RoundNo) (tap : Bool) (c : RxCell) :
    x.beginRecord fs n tap c =
      let accepted := x.config.accepts fs (cellTestBytes c)
      let r : Assembly :=
        { cells := 1, payload := if accepted then cellBytes c else [], rejected := !accepted, tapped := tap, firstRound := n, age := 0 }
      let d := if accepted then x.begun else x.begun.count .filterReject
      if cellBoundary c = 3 then
        ({ d with assembly := none }, accepted,
          if accepted then some { r with payload := r.payload.take (effectiveFill (cellFill c)) } else none)
      else ({ d with assembly := some r }, accepted, none) := by
  unfold Context.beginRecord Context.begun
  cases x.assembly <;> rfl

theorem Context.beginRecord_accepted {x : Context} {fs : Vector FilterUnit 8} {c : RxCell}
    (h : x.config.accepts fs (cellTestBytes c) = true) (n : RoundNo) (tap : Bool) :
    x.beginRecord fs n tap c =
      if cellBoundary c = 3 then
        ({ x.begun with assembly := none }, true,
          some { cells := 1, payload := (cellBytes c).take (effectiveFill (cellFill c)), rejected := false, tapped := tap
                 firstRound := n, age := 0 })
      else
        ({ x.begun with assembly := some { cells := 1, payload := cellBytes c, rejected := false, tapped := tap, firstRound := n, age := 0 } },
          true, none) := by
  rw [Context.beginRecord_eq, h]; rfl

theorem Context.beginRecord_rejected {x : Context} {fs : Vector FilterUnit 8} {c : RxCell}
    (h : x.config.accepts fs (cellTestBytes c) = false) (n : RoundNo) (tap : Bool) :
    x.beginRecord fs n tap c =
      if cellBoundary c = 3 then ({ x.begun.count .filterReject with assembly := none }, false, none)
      else
        ({ x.begun.count .filterReject with
            assembly := some { cells := 1, payload := [], rejected := true, tapped := tap, firstRound := n, age := 0 } }, false, none) := by
  rw [Context.beginRecord_eq, h]; rfl

theorem Context.continueRecord_full {x : Context} {r : Assembly} (hx : x.assembly = some r) (tap : Bool) (c : RxCell) (h : 16 ≤ r.cells) :
    x.continueRecord tap c = ({ x.count .tooLong with assembly := none, resync := true }, true, none) := by
  rw [Context.continueRecord, hx]
  exact if_pos h

theorem Context.continueRecord_below {x : Context} {r : Assembly} (hx : x.assembly = some r) (h : r.cells < 16) (tap : Bool) (c : RxCell) :
    x.continueRecord tap c =
      if cellBoundary c = 1 then
        ({ x with assembly := some { r with
            cells := r.cells + 1, payload := if r.rejected then [] else r.payload ++ cellBytes c, tapped := r.tapped || tap } },
          !r.rejected, none)
      else if r.rejected then ({ x with assembly := none }, false, none)
      else
        ({ x with assembly := none }, true,
          some { r with
            cells := r.cells + 1, payload := r.payload ++ (cellBytes c).take (effectiveFill (cellFill c)), tapped := r.tapped || tap }) := by
  rw [Context.continueRecord, hx]
  exact if_neg (Nat.not_le.mpr h)

/-- Settles O23. -/
theorem dropSlotDelivery : Obligations.DropSlotDelivery := by
  refine ⟨fun i c s hd hs hc ht hm => ?_, fun i tap take c s d offered hrec => ?_, fun x fs n tap c => ?_, fun x fs n tap c => ?_,
    fun x tap c => ?_⟩
  · refine ⟨(State.dropSlot_eligible hd hs true c).trans ?_, (State.dropSlot_eligible hd hs false c).trans ?_⟩
    · rw [State.dropCell_matching hc ht hm]; rfl
    · rw [State.dropCell_matching hc ht hm]; rfl
  · refine ⟨fun hno => ?_, fun a ha => ?_⟩
    · rw [State.deliver, hrec, hno]; rfl
    · rw [State.deliver, hrec, ha]; rfl
  · refine ⟨fun hx => ?_, fun hx => ?_⟩
    · rw [Context.receive_armed hx]
      exact ⟨fun hb => if_pos (beginsRecord_iff.mpr hb), fun hb => if_neg (mt beginsRecord_iff.mp hb)⟩
    · rw [Context.receive_running hx, Context.sequence_eq]
      exact ⟨fun hb => if_pos (beginsRecord_iff.mpr hb), fun hb => if_neg (mt beginsRecord_iff.mp hb)⟩
  · intro d fill started
    have hfill : effectiveFill (cellFill c) = fill := effectiveFill_eq _
    refine ⟨fun ha => ?_, fun ha => ?_⟩
    · rw [Context.beginRecord_accepted ha, hfill]
      exact ⟨fun hb => if_pos hb, fun hb => if_neg hb⟩
    · rw [Context.beginRecord_rejected ha]
      exact ⟨fun hb => if_pos hb, fun hb => if_neg hb⟩
  · intro fill
    have hfill : effectiveFill (cellFill c) = fill := effectiveFill_eq _
    refine ⟨fun hx => ?_, fun r hx => ?_⟩
    · rw [Context.continueRecord, hx]
    · refine ⟨Context.continueRecord_full hx tap c, fun hcells => ?_⟩
      intro more
      rw [Context.continueRecord_below hx hcells, hfill]
      refine ⟨fun hb => ?_, fun hb => ?_⟩
      · rw [if_pos (show cellBoundary c = 1 from hb)]
        exact ⟨fun hr => by simp [more, hr], fun hr => by simp [more, hr]⟩
      · rw [if_neg (show ¬ cellBoundary c = 1 from fun h => by rw [cellBoundary, hb] at h; cases h)]
        exact ⟨fun hr => if_neg (by simp [hr]), fun hr => if_pos hr⟩

/-! ### The Drop Queue (R87, R105, R106) -/

theorem DropQueue.fits_iff {q : DropQueue} {r : DropRec} :
    q.fits r = true ↔ 8 + (r.payload.length + 3) / 4 * 4 ≤ 8192 - dropOccupancy q ∧ q.records.length < 64 := by
  simp only [DropQueue.fits, Bool.and_eq_true, decide_eq_true_eq]
  rfl

theorem dropOccupancy_append (q : DropQueue) (r : DropRec) :
    dropOccupancy { q with records := q.records ++ [r] } = dropOccupancy q + dropCharge r := by
  simp [dropOccupancy]

/-- Settles O25. -/
theorem recordOffered : Obligations.RecordOffered := by
  intro i a s r charge
  have hfits : s.drop.fits (dropRecordOf i s.contexts[i] a) = true ↔ _ := DropQueue.fits_iff
  refine ⟨fun h => ?_, fun h => ?_⟩
  · rw [State.offer, if_pos (hfits.mpr h)]
    by_cases ht : dropOccupancy s.drop ≤ s.config.threshold ∧ s.config.threshold < dropOccupancy s.drop + charge
    · rw [if_pos ht]
      refine (if_pos ?_).trans rfl
      simp only [Bool.and_eq_true, decide_eq_true_eq, dropOccupancy_append]
      exact ht
    · rw [if_neg ht]
      refine (if_neg ?_).trans rfl
      simp only [Bool.and_eq_true, decide_eq_true_eq, dropOccupancy_append]
      exact ht
  · rw [State.offer, if_neg (mt hfits.mp h)]
    rfl

end Sys2Proof.Machine
end

section
/-!
INSERT slots and the cells that the part builds (4.5, 5.4): O24.
-/

namespace Sys2Proof.Machine

open Sys2Proof

/-! ### The fields of a cell that the part builds -/

theorem bit_eq_testBit_bits (w : Word) (i : Nat) : bit w i = (bits w i i).testBit 0 := by
  rw [testBit_bits]; simp [bit]

theorem buildCell_header (tag : Nat) (q : BitVec 3) (boundary fill : Nat) (p : List Byte) {hi lo : Nat} (h : 8 ≤ lo) :
    bits (buildCell tag q boundary fill p).header.value hi lo =
      bits (field 31 25 tag) hi lo ||| bits (field 24 22 q.toNat) hi lo ||| bits (field 21 20 boundary) hi lo |||
        bits (field 19 15 fill) hi lo := by
  rw [← bits_or, ← bits_or, ← bits_or]
  exact bits_refreshCell _ hi lo h

/-- Each field of a built cell reads back, and the lap flag is clear (R70). -/
theorem buildCell_fields {tag : Nat} (htag : tag < 128) (q : BitVec 3) {boundary : Nat} (hb : boundary < 4) {fill : Nat} (hf : fill < 32)
    (p : List Byte) :
    cellTag (buildCell tag q boundary fill p) = tag ∧ cellSeq (buildCell tag q boundary fill p) = q ∧
      cellBoundary (buildCell tag q boundary fill p) = boundary ∧ cellFill (buildCell tag q boundary fill p) = fill ∧
      cellLap (buildCell tag q boundary fill p) = false := by
  refine ⟨?_, ?_, ?_, ?_, ?_⟩
  · rw [cellTag, buildCell_header _ _ _ _ _ (by omega), bits_field_same (by omega) (by omega) htag]
    simp (disch := omega) only [bits_field_apart, Nat.or_zero]
  · rw [cellSeq, buildCell_header _ _ _ _ _ (by omega), bits_field_same (hi := 24) (by omega) (by omega) q.isLt]
    simp (disch := omega) only [bits_field_apart, Nat.or_zero, Nat.zero_or]
    exact BitVec.ofNat_toNat 3 q |>.trans (BitVec.setWidth_eq q)
  · rw [cellBoundary, buildCell_header _ _ _ _ _ (by omega), bits_field_same (hi := 21) (by omega) (by omega) hb]
    simp (disch := omega) only [bits_field_apart, Nat.or_zero, Nat.zero_or]
  · rw [cellFill, buildCell_header _ _ _ _ _ (by omega), bits_field_same (hi := 19) (by omega) (by omega) hf]
    simp (disch := omega) only [bits_field_apart, Nat.zero_or]
  · rw [cellLap, bit_eq_testBit_bits, buildCell_header _ _ _ _ _ (by omega)]
    simp (disch := omega) only [bits_field_apart, Nat.or_zero, Nat.zero_testBit]

theorem wordBytes_bytesWord (a b c d : Byte) : wordBytes (bytesWord a b c d) = [a, b, c, d] := by
  have hbyte (x : Byte) : BitVec.ofNat 8 x.toNat = x := (BitVec.ofNat_toNat 8 x).trans (BitVec.setWidth_eq x)
  have ha : bits (bytesWord a b c d) 31 24 = a.toNat := by
    rw [bytesWord, bits_or, bits_or, bits_or, bits_field_same (by omega) (by omega) a.isLt]
    simp (disch := omega) only [bits_field_apart, Nat.or_zero]
  have hb : bits (bytesWord a b c d) 23 16 = b.toNat := by
    rw [bytesWord, bits_or, bits_or, bits_or, bits_field_same (hi := 23) (by omega) (by omega) b.isLt]
    simp (disch := omega) only [bits_field_apart, Nat.or_zero, Nat.zero_or]
  have hc : bits (bytesWord a b c d) 15 8 = c.toNat := by
    rw [bytesWord, bits_or, bits_or, bits_or, bits_field_same (hi := 15) (by omega) (by omega) c.isLt]
    simp (disch := omega) only [bits_field_apart, Nat.or_zero, Nat.zero_or]
  have hd : bits (bytesWord a b c d) 7 0 = d.toNat := by
    rw [bytesWord, bits_or, bits_or, bits_or, bits_field_same (hi := 7) (by omega) (by omega) d.isLt]
    simp (disch := omega) only [bits_field_apart, Nat.zero_or]
  rw [wordBytes, ha, hb, hc, hd, hbyte, hbyte, hbyte, hbyte]

theorem flatMap_range_four {α : Type} (f : Nat → α) (n : Nat) :
    (List.range n).flatMap (fun i => [f (4 * i), f (4 * i + 1), f (4 * i + 2), f (4 * i + 3)]) = (List.range (4 * n)).map f := by
  induction n with
  | zero => rfl
  | succ n ih => rw [List.range_succ, List.flatMap_append, ih, Nat.mul_succ, List.range_add, List.map_append]; rfl

/-- The payload bytes of a built cell are those handed over, in order and filled up with zeros (R70). -/
theorem cellBytes_buildCell (tag : Nat) (q : BitVec 3) (boundary fill : Nat) (p : List Byte) :
    cellBytes (buildCell tag q boundary fill p) = (List.range 24).map (byteAt p) := by
  have hwords : cellBytes (buildCell tag q boundary fill p) = (List.range 6).flatMap fun i => wordBytes (payloadWord p i) := by
    show List.flatMap (fun w : RxWord => wordBytes w.value) (Vector.ofFn fun i : Fin 6 => sendWord (payloadWord p i)).toList = _
    rfl
  simp only [hwords, payloadWord, wordBytes_bytesWord]
  exact flatMap_range_four (byteAt p) 6

/-! ### The next cell of a context (R68, R70, R90) -/

theorem Context.nextCell_of {x : Context} {r : InsertRec} {rest : List InsertRec} (h : x.queue = r :: rest) :
    x.nextCell = buildCell x.config.tag.toNat (x.seq.getD 0) (insertBoundary x.cellsSent (recordCells r)) (insertFill x.cellsSent r)
      ((r.payload.drop (24 * x.cellsSent)).take 24) := by
  rw [Context.nextCell, h]

theorem insertBoundary_lt (i n : Nat) : insertBoundary i n < 4 := by
  unfold insertBoundary; repeat' split
  all_goals omega

theorem insertFill_eq (i : Nat) (r : InsertRec) :
    insertFill i r = if i + 1 = (r.payload.length + 23) / 24 then r.payload.length - 24 * i else 24 := by
  unfold insertFill recordCells
  split
  case isTrue h => rw [← h, Nat.add_sub_cancel]
  case isFalse => rfl

theorem insertFill_lt (i : Nat) (r : InsertRec) : insertFill i r < 32 := by
  rw [insertFill_eq]; split <;> omega

theorem Context.hasCell_iff {x : Context} : x.hasCell = true ↔
    (x.state = .running ∨ x.state = .draining) ∧
      ∃ (r : InsertRec) (rest : List InsertRec), x.queue = r :: rest ∧ x.cellsSent < (r.payload.length + 23) / 24 := by
  rw [Context.hasCell]
  cases hq : x.queue with
  | nil => simp
  | cons r rest =>
    simp [recordCells]
    exact fun _ => decide_eq_true_iff

/-! ### INSERT slots -/

theorem Context.insertEligible_of {c : Context} (h : c.state = .armed ∨ c.state = .running ∨ c.state = .draining) :
    c.insertEligible = true := by
  rcases h with h | h | h <;> simp [Context.insertEligible, h]

theorem Context.not_insertEligible_of {c : Context} (h : c.state = .idle ∨ c.state = .held) : c.insertEligible = false := by
  rcases h with h | h <;> simp [Context.insertEligible, h]

theorem State.insertSlot_eligible {s : State} {i : Fin 16} (hd : s.contexts[i].config.direction = .insertSide)
    (hs : s.contexts[i].state = .armed ∨ s.contexts[i].state = .running ∨ s.contexts[i].state = .draining) (c : RxCell) :
    s.insertSlot i c = (s.mapCtx i Context.arrive).insertCell i c := by
  rw [State.insertSlot, if_neg (not_not_intro hd), if_pos (Context.insertEligible_of hs)]

/-- A context past its first INSERT slot. -/
theorem State.insertSlot_arrived {s : State} {i : Fin 16} (hd : s.contexts[i].config.direction = .insertSide)
    (hs : s.contexts[i].state = .running ∨ s.contexts[i].state = .draining) (c : RxCell) :
    s.insertSlot i c = s.insertCell i c := by
  rw [State.insertSlot_eligible hd (.inr hs), State.mapCtx_eq_self]
  exact if_neg (by rcases hs with hs | hs <;> rw [hs] <;> decide)

/-- Settles O24. -/
theorem insertSlot : Obligations.InsertSlot := by
  refine ⟨fun i c s => ⟨fun hd => if_pos hd, fun hd hs => ?_⟩, fun i c s hd hs => State.insertSlot_arrived hd hs c,
    fun i c s hd hs => ?_, fun x => Context.hasCell_iff, fun x r rest hq => ?_⟩
  · show s.insertSlot i c = _
    rw [State.insertSlot, if_neg (not_not_intro hd), Context.not_insertEligible_of hs]
    rfl
  · have hi : (s.mapCtx i fun c => { c with state := .running }).contexts[i] = { s.contexts[i] with state := .running } :=
      State.mapCtx_same s i _
    have harrive : s.mapCtx i Context.arrive = s.mapCtx i fun c => { c with state := .running } := by
      simp only [State.mapCtx]; rw [Context.arrive, if_pos hs]
    show s.insertSlot i c = (s.mapCtx i fun c => { c with state := .running }).insertSlot i c
    rw [State.insertSlot_eligible hd (.inl hs), harrive, State.insertSlot_arrived]
    · rw [hi]; exact hd
    · rw [hi]; exact .inl rfl
  · refine ⟨fun hlt => ?_, fun hlast => ?_, fun hlast => ?_⟩
    · obtain ⟨htag, hseq, hb, hf, hlap⟩ := buildCell_fields (tag := x.config.tag.toNat) x.config.tag.isLt (x.seq.getD 0)
        (insertBoundary_lt x.cellsSent (recordCells r)) (insertFill_lt x.cellsSent r) ((r.payload.drop (24 * x.cellsSent)).take 24)
      rw [Context.nextCell_of hq]
      refine ⟨htag, hseq, hb, hf.trans (insertFill_eq _ r), hlap, buildCell_not_damaged _ _ _ _ _, fun k hk => ?_⟩
      rw [cellBytes_buildCell]
      simp [byteAt, List.getD_eq_getElem?_getD, hk]
    · rw [Context.cellSent, hq]
      exact if_neg hlast
    · rw [Context.cellSent, hq]
      exact if_pos hlast

end Sys2Proof.Machine
end

section
/-!
The Plan Store at a round start and the commands applied from the work queue to it and to the contexts: O36, O37, O39, O43 to O45.
-/

namespace Sys2Proof.Machine

open Sys2Proof

/-! ### The round plan and the due commit (R39 to R44, R51, R52) -/

theorem Rotation.step_eq (r : Rotation) (n : RoundNo) (h : n.toNat % r.length < 12) : r.step n = r.steps[n.toNat % r.length] := by
  have hv : (Fin.ofNat 12 (n.toNat % r.length)).val = n.toNat % r.length := Nat.mod_eq_of_lt h
  simp only [Rotation.step, Fin.getElem_fin, hv]

/-- Slot k of a round plan is the bank's entry for slot k, resolved. -/
theorem Bank.actions_getD (b : Bank) {slotCount k : Nat} (hs : slotCount ≤ 48) (hk : k < slotCount) :
    ((b.slots.toList.take slotCount).map b.resolve).getD k .pass = b.resolve (b.slots.toList.getD k .pass) := by
  have hlen : k < b.slots.toList.length := by simp; omega
  simp [List.getD_eq_getElem?_getD, hk, List.getElem?_eq_getElem hlen]

/-- Settles O36. -/
theorem roundPlanBuilt : Obligations.RoundPlanBuilt := by
  intro p n slotCount k h hs hk resolve
  rw [← Rotation.step_eq p.rotation n h]
  refine ⟨fun hstep => ?_, fun hstep => ?_, fun hstep => ?_⟩
  · rw [PlanStore.build, hstep]
    exact ⟨rfl, Bank.actions_getD p.bankA hs hk⟩
  · rw [PlanStore.build, hstep]
    exact ⟨rfl, Bank.actions_getD p.bankB hs hk⟩
  · rw [PlanStore.build, hstep]
    refine ⟨rfl, ?_⟩
    show (List.replicate slotCount PlanEntry.pass).getD k .pass = _
    rw [List.getD_replicate _ hk]

/-- The live tables of a commit are those that the edits leave; the rest of the Plan Store is emptied or kept. -/
theorem PlanStore.committed_eq (p : PlanStore) :
    p.committed =
      { p with
        bankA := (p.edits.foldl PlanStore.applyEdit p).bankA
        bankB := (p.edits.foldl PlanStore.applyEdit p).bankB
        rotation := (p.edits.foldl PlanStore.applyEdit p).rotation
        edits := [], commit := .none, commitDue := false } := by
  rw [PlanStore.committed, PlanStore.applyEdits_frame]

/-- The counters that a commit leaves: COMMIT_PASSED counts where its target has been passed over (R52). -/
theorem State.applyCommit_eq (s : State) :
    s.applyCommit =
      { s with
        plan := { s.plan.committed with
          roundPlan := some ((s.plan.edits.foldl PlanStore.applyEdit s.plan).build s.tracker.round s.tracker.params.slotCount) }
        events := s.events.raise s.config .commitApplied
        counters :=
          (match s.plan.commit with
            | .atTarget target => if target = s.tracker.round then s else s.count .commitPassed
            | _ => s).counters } := by
  unfold State.applyCommit
  cases hc : s.plan.commit with
  | none => rfl
  | nextStart target => rfl
  | atTarget target =>
    by_cases ht : target = s.tracker.round
    · simp only [PendingCommit.passed, ht, bne_self_eq_false, if_true]; rfl
    · simp only [PendingCommit.passed, bne_iff_ne.mpr ht, if_true, if_neg ht]; rfl

/-- Settles O37. -/
theorem commitApplied : Obligations.CommitApplied := by
  refine ⟨fun p k v r => ⟨rfl, rfl, rfl, rfl, rfl⟩, fun s hr hdue hc => ⟨_, rfl, ?_⟩⟩
  have hrun : exec .commitApplied s = .next s.applyCommit.finish :=
    exec_of_ready (w := .commitApplied) rfl (by simp [Work.ready, State.inRound_of hr, hdue, hc])
  rw [hrun, State.applyCommit_eq, PlanStore.committed_eq] <;> rfl

/-! ### Contexts at a round start and at the end of a drain (R89, R91, R93) -/

theorem Context.resumed_eq (c : Context) : c.resumed =
    if c.state = .held ∧ c.resume = .running then { c with state := .running, resume := .none }
    else if c.state = .held ∧ c.resume = .draining then { c with state := .draining, resume := .none }
    else c := by
  by_cases hs : c.state = .held
  · cases hr : c.resume <;> simp [Context.resumed, hs, hr]
  · simp [Context.resumed, hs]

/-- A HELD context with a resume state makes the resumption due. -/
theorem any_canResume {cs : List Context} (h : ∃ c ∈ cs, c.state = .held ∧ c.resume ≠ .none) : cs.any Context.canResume = true := by
  obtain ⟨c, hc, hs, hr⟩ := h
  exact List.any_eq_true.mpr ⟨c, hc, by simp [Context.canResume, hs, hr]⟩

/-- Settles O39. -/
theorem contextStepsDue : Obligations.ContextStepsDue := by
  refine ⟨fun i s hs hf => ?_, fun i a s hs hd ha hage => ?_, fun s hr hheld => ?_⟩
  · have hready : s.contexts[i].drained = true := by rw [Context.drained, hs, hf]; rfl
    exact exec_of_ready (w := .insertDrained i) rfl hready
  · have hready : s.contexts[i].isStale = true := by
      rw [Context.isStale, hs, hd, ha]
      exact decide_eq_true hage
    exact exec_of_ready (w := .staleAssembly i) rfl hready
  · have hready : Work.ready .contextResume s = true := by
      rw [Work.ready, State.inRound_of hr, any_canResume hheld]; rfl
    refine (exec_of_ready (w := .contextResume) rfl hready).trans (next_congr ?_)
    have hmap : s.contexts.map Context.resumed = _ := congrArg s.contexts.map (funext Context.resumed_eq)
    show s.takeUp.resumeAll = _
    rw [State.resumeAll, State.takeUp_contexts, hmap]
    rfl

/-! ### Commands applied from the work queue (R144) -/

theorem exec_apply {i : Instr} {row : WorkRow} (hw : workOf i = some (.apply row)) {e : WorkEntry} {rest : List WorkEntry} {s : State}
    (h : s.HeadDue e rest) (hr : e.row = row) :
    exec i s = .next (State.report e ((s.popped rest).applyBy row e.body)).finish := by
  rw [exec_of_workOf hw, State.runWork_apply h row hr]

/-- A command whose row gives it a plain outcome. -/
theorem exec_applied {i : Instr} {row : WorkRow} (hw : workOf i = some (.apply row)) {e : WorkEntry} {rest : List WorkEntry} {s : State}
    (h : s.HeadDue e rest) (hr : e.row = row) {st : Status} {body : List Word} {t : State}
    (ha : (s.popped rest).applyBy row e.body = plainly (st, body, t)) : exec i s = .next (t.applied e st body).finish := by
  rw [exec_apply hw h hr, ha]; rfl

/-- The row of a command, by its code and its form (9.4). -/
def commandRow (code form : Nat) : WorkRow :=
  match code with
  | 4 => .commitPlan
  | 5 => .cancelCommit
  | 6 => .startContext
  | 7 => .stopContext
  | 8 => .haltContext
  | 9 => .flushDropQueue
  | 10 => .clearEvents
  | 11 => clearRow form
  | 12 => .takeHolder
  | 13 => .dropHolder
  | 14 => .restartRing
  | _ => .nodeReset

theorem WorkEntry.row_command {e : WorkEntry} {code : Nat} (h : e.IsCommand code) : e.row = commandRow code (reqForm e.body) := by
  obtain ⟨hkind, rfl⟩ := h
  rw [WorkEntry.row, hkind]; rfl

theorem ahead_iff {target n : RoundNo} : ahead target n = true ↔ 1 ≤ (target - n).toNat ∧ (target - n).toNat ≤ 32767 := by
  simp [ahead]

/-- COMMIT_PLAN in IN_ROUND with no commit pending (R50). -/
theorem State.commitPlan_taken {s : State} (hr : s.tracker.tracking = .inRound) (hc : s.plan.commit = .none) (target : RoundNo) :
    s.commitPlan target =
      if ahead target s.tracker.round then
        (.ok, commitBody s.tracker.round s.plan.edits.length, { s with plan := { s.plan with commit := .atTarget target } })
      else (.late, commitBody s.tracker.round s.plan.edits.length, { s with plan := { s.plan with commit := .nextStart target } }) := by
  rw [State.commitPlan, State.inRound_of hr, if_neg (by simp), if_neg (not_not_intro hc)]

theorem State.planRestart_eq (s : State) :
    s.planRestart =
      { s with
        plan := { s.plan with restartDue := false, commitDue := false, commit := .none, roundPlan := none }
        events := if s.plan.commit = .none then s.events else s.events.raise s.config .commitCancelled } := by
  by_cases h : s.plan.commit = .none
  · rw [State.planRestart, if_pos h, if_pos h]
  · rw [State.planRestart, if_neg h, if_neg h]; rfl

/-- Settles O43. -/
theorem commitCommandsApplied : Obligations.CommitCommandsApplied := by
  refine ⟨fun e rest s h => ?_, fun s => ⟨Iff.rfl, s.planRestart_eq⟩⟩
  intro u n target body
  refine ⟨fun hcmd => ?_, fun hcmd => ?_⟩
  · have hrow : e.row = .commitPlan := WorkEntry.row_command hcmd
    have hrun {st : Status} {words : List Word} {t : State} (ht : u.commitPlan target = (st, words, t)) :
        exec .commitPlan s = .next (t.applied e st words).finish :=
      exec_applied (row := .commitPlan) rfl h hrow (congrArg plainly ht)
    refine ⟨fun hne => hrun ?_, fun hr => ⟨fun hc => hrun ?_, fun hc => ⟨fun ht => hrun ?_, fun ht => hrun ?_⟩⟩⟩
    · rw [State.commitPlan, State.not_inRound_of (s := u) hne]; rfl
    · rw [State.commitPlan, State.inRound_of (s := u) hr, if_neg (by simp)]
      exact if_pos hc
    · rw [State.commitPlan_taken (s := u) hr hc]
      exact if_pos (ahead_iff.mpr ht)
    · rw [State.commitPlan_taken (s := u) hr hc]
      exact if_neg (mt ahead_iff.mp ht)
  · have hrow : e.row = .cancelCommit := WorkEntry.row_command hcmd
    have hrun {st : Status} {words : List Word} {t : State} (ht : u.cancelCommit = (st, words, t)) :
        exec .cancelCommit s = .next (t.applied e st words).finish :=
      exec_applied (row := .cancelCommit) rfl h hrow (congrArg plainly ht)
    refine ⟨fun hc => hrun ?_, fun r hc => hrun ?_⟩
    · rw [State.cancelCommit, show u.plan.commit = .none from hc]
    · rcases hc with hc | hc
      · rw [State.cancelCommit, show u.plan.commit = .atTarget r from hc]; rfl
      · rw [State.cancelCommit, show u.plan.commit = .nextStart r from hc]; rfl

/-! ### Context commands (R76 to R80) -/

theorem State.contextCommand_outOfRange {s : State} {n : Nat} (h : 15 < n) (f : Context → Status × Context) :
    s.contextCommand n f = (.outOfRange, [], s) := if_pos h

theorem State.contextCommand_refused {s : State} {n : Nat} {i : Fin 16} (h : n = i.val) {f : Context → Status × Context} {st : Status}
    (hf : (f s.contexts[i]).1 = st) (hst : st ≠ .ok) : s.contextCommand n f = (st, [], s) := by
  rw [State.contextCommand_of s n f i h, if_neg (by rw [hf]; exact hst), hf]

theorem State.contextCommand_taken {s : State} {n : Nat} {i : Fin 16} (h : n = i.val) {f : Context → Status × Context} {c : Context}
    (hf : f s.contexts[i] = (.ok, c)) :
    s.contextCommand n f = (.ok, contextBody c, { s with contexts := s.contexts.set i c }) := by
  rw [State.contextCommand_of s n f i h, if_pos (by rw [hf]), hf]; rfl

theorem Context.start_wrongState {c : Context} (h : c.state ≠ .idle) : c.start.1 = .wrongState := by
  rw [Context.start, if_pos h]

theorem Context.start_badConfig {c : Context} (hs : c.state = .idle)
    (h : c.config.tag.toNat = 0 ∨ 120 < c.config.tag.toNat ∨ c.config.direction = .code2 ∨ c.config.direction = .code3) :
    c.start.1 = .badConfig := by
  rw [Context.start, if_neg (not_not_intro hs)]
  by_cases htag : 1 ≤ c.config.tag.toNat ∧ c.config.tag.toNat ≤ 120
  · rw [if_neg (by simp [htag.1, htag.2])]
    rcases h with h | h | h | h
    · omega
    · omega
    · rw [h]
    · rw [h]
  · rw [if_pos (by simpa only [Bool.not_eq_true', Bool.and_eq_false_iff, decide_eq_false_iff_not, not_and_or] using htag)]

theorem Context.start_of_tag {c : Context} (hs : c.state = .idle) (h1 : 1 ≤ c.config.tag.toNat) (h2 : c.config.tag.toNat ≤ 120) :
    c.start =
      match c.config.direction with
      | .dropSide => (.ok, { c with state := .armed, seq := none, assembly := none, resync := false })
      | .insertSide => (.ok, { c with state := .armed, seq := some 0, cellsSent := 0, inFlight := false })
      | _ => (.badConfig, c) := by
  rw [Context.start, if_neg (not_not_intro hs), if_neg (by simp [h1, h2])] <;> rfl

/-- Settles O44. -/
theorem startContextApplied : Obligations.StartContextApplied := by
  intro e rest s h hcmd u
  have hrow : e.row = .startContext := WorkEntry.row_command hcmd
  have hrun {st : Status} {words : List Word} {t : State} (ht : u.contextCommand (reqOperand e.body) Context.start = (st, words, t)) :
      exec .startContext s = .next (t.applied e st words).finish :=
    exec_applied (row := .startContext) rfl h hrow (congrArg plainly ht)
  refine ⟨fun hn => hrun (State.contextCommand_outOfRange hn _), fun i hi => ?_⟩
  intro c
  refine ⟨fun hs => ?_, fun hs => ⟨fun hbad => ?_, fun h1 h2 => ⟨fun hd => ?_, fun hd => ?_⟩⟩⟩
  · exact hrun (State.contextCommand_refused (s := u) hi (Context.start_wrongState hs) (by decide))
  · exact hrun (State.contextCommand_refused (s := u) hi (Context.start_badConfig hs hbad) (by decide))
  · have hstart := Context.start_of_tag hs h1 h2
    rw [hd] at hstart
    have htaken := State.contextCommand_taken (s := u) hi hstart
    exact hrun htaken
  · have hstart := Context.start_of_tag hs h1 h2
    rw [hd] at hstart
    have htaken := State.contextCommand_taken (s := u) hi hstart
    exact hrun htaken

/-- A context at the end of its service, by its side (R78 to R80). -/
def Context.ended (c : Context) : Context :=
  if c.config.direction = .insertSide then
    { c with state := .idle, resume := .none, queue := [], cellsSent := 0, inFlight := false }
  else { c with state := .idle, resume := .none, assembly := none, seq := none, resync := false }

theorem Context.halt_eq (c : Context) : c.halt = c.ended := rfl

theorem Context.stop_ends {c : Context} (h : c.config.direction ≠ .insertSide ∨ c.inFlight = false) : c.stop = c.ended := by
  rw [Context.stop, Context.ended]
  by_cases hd : c.config.direction = .insertSide
  · have hf := h.resolve_left (not_not_intro hd)
    rw [if_pos hd, if_pos hd, if_neg (by simp [hf])]; rfl
  · rw [if_neg hd, if_neg hd]; rfl

theorem Context.stop_inFlight {c : Context} (hd : c.config.direction = .insertSide) (hf : c.inFlight = true) :
    c.stop =
      match c.state with
      | .running => { c with state := .draining }
      | .held => { c with resume := .draining }
      | _ => c := by
  rw [Context.stop, if_pos hd, if_pos hf] <;> rfl

/-- Settles O45. -/
theorem stopAndHaltApplied : Obligations.StopAndHaltApplied := by
  intro e rest s h u ended
  have hstop (hcmd : e.IsCommand 7) {st : Status} {words : List Word} {t : State}
      (ht : u.contextCommand (reqOperand e.body) (fun c => (.ok, c.stop)) = (st, words, t)) :
      exec .stopContext s = .next (t.applied e st words).finish :=
    exec_applied (row := .stopContext) rfl h (WorkEntry.row_command hcmd) (congrArg plainly ht)
  have hhalt (hcmd : e.IsCommand 8) {st : Status} {words : List Word} {t : State}
      (ht : u.contextCommand (reqOperand e.body) (fun c => (.ok, c.halt)) = (st, words, t)) :
      exec .haltContext s = .next (t.applied e st words).finish :=
    exec_applied (row := .haltContext) rfl h (WorkEntry.row_command hcmd) (congrArg plainly ht)
  refine ⟨fun hcmd hn => hstop hcmd (State.contextCommand_outOfRange hn _),
    fun hcmd hn => hhalt hcmd (State.contextCommand_outOfRange hn _), fun i hi => ?_⟩
  intro c leaving
  have hstopped (hcmd : e.IsCommand 7) {d : Context} (hd : c.stop = d) : exec .stopContext s = .next (leaving d).finish :=
    hstop hcmd (State.contextCommand_taken hi (congrArg (Prod.mk Status.ok) hd))
  refine ⟨fun hcmd => ⟨fun hside => hstopped hcmd (Context.stop_ends hside), fun hd hf => ⟨fun hs => ?_, fun hs => ?_, fun hs => ?_⟩⟩,
    fun hcmd => hhalt hcmd (State.contextCommand_taken hi rfl)⟩
  · exact hstopped hcmd ((Context.stop_inFlight hd hf).trans (by rw [hs]))
  · exact hstopped hcmd ((Context.stop_inFlight hd hf).trans (by rw [hs]))
  · exact hstopped hcmd ((Context.stop_inFlight hd hf).trans (by rw [hs]))

end Sys2Proof.Machine
end

section
/-!
Outcomes, the claim, the other commands of the work queue, the soft reset and the steps of a round start: O40, O42, O46 to O48, O52.
-/

namespace Sys2Proof.Machine

open Sys2Proof

/-! ### Where an outcome goes (R143, R145 to R147) -/

theorem State.fillReply_unicast {e : WorkEntry} {id : Nat} (ho : e.origin = .unicast) (hs : e.source = .node id) (st : Status)
    (body : List Word) (mark : Option Release) (s : State) :
    s.fillReply e st body mark =
      { s with responder := { s.responder with
          replies := s.responder.replies ++ [{ dest := id, tag := e.tag, status := st, body := body, mark := mark }] } } := by
  rw [State.fillReply, ho, hs]

theorem State.fillReply_self {e : WorkEntry} (ho : e.origin = .self) (st : Status) (body : List Word) (mark : Option Release) (s : State) :
    s.fillReply e st body mark = s.complete e.tag (statusByte st) body := by
  rw [State.fillReply, ho]

/-- The reports of an applied entry that has neither a failure index's release nor a mark. -/
theorem State.report_eq (e : WorkEntry) (st : Status) (body : List Word) (index : Nat) (s : State) :
    State.report e (st, body, index, none, s) =
      if e.kind = .writePosted ∨ e.origin = .group then (if isRefusal st then s.recordFailure e index st else s)
      else if e.origin = .unicast ∧ e.place = false then s
      else s.fillReply e st body none := by
  simp [State.report, State.addRelease]

theorem State.recordFailure_eq {e : WorkEntry} {w : Word} {more : List Word} (h : e.body = w :: more) (index : Nat) (st : Status) (s : State) :
    s.recordFailure e index st =
      { s with
        responder :=
          if s.responder.capture = none then
            { s.responder with
              capture := some
                { isCommand := e.kind = .command, code := bits w 31 24, index := if e.kind = .command then 0 else index
                  source := e.source, tag := e.tag, reason := st } }
          else { s.responder with overrun := true }
        events := s.events.raise s.config .writeFailed } := by
  rw [State.recordFailure, h]
  cases s.responder.capture <;> rfl

/-- Settles O40. -/
theorem outcomeReported : Obligations.OutcomeReported := by
  refine ⟨fun e id st body mark s => ⟨fun ho hs => State.fillReply_unicast ho hs st body mark s, fun ho => State.fillReply_self ho st body mark s⟩,
    fun e st body index s => ⟨fun h => ?_, fun hk ho => ?_, fun hk ho => ?_⟩, fun e index st w more s h => State.recordFailure_eq h index st s⟩
  · rw [State.report_eq, if_pos h]
  · rw [State.report_eq, if_neg (by simp [hk, ho])]
    cases hp : e.place <;> simp [ho]
  · rw [State.report_eq, if_neg (by simp [hk, ho]), if_neg (by simp [ho])]

/-! ### Requests that wait for their answer (R142, R152, R156) -/

/-- What a row leaves of the request in front. -/
theorem State.answerHead_eq {e : WorkEntry} {rest : List WorkEntry} {s : State} (h : s.AnswerDue e rest) {row : AnswerRow}
    (hr : e.answerRow = row) {st : Status} {body : List Word} {t : State} (ha : (s.unanswered rest).answerBy row e = (st, body, t)) :
    s.answerHead row =
      if e.origin = .group then (if isRefusal st then t.recordFailure e 0 st else t)
      else if e.origin = .unicast ∧ e.place = false then t
      else t.fillReply e st body none := by
  rw [State.answerHead, show s.responder.answering = e :: rest from h]
  simp only [if_pos hr]
  rw [show ({ s with responder := { s.responder with answering := rest } } : State).answerBy row e = (st, body, t) from ha]
  simp

/-- The request in front is answered by its row, by the command of the row as by the group message that brought it. -/
theorem State.answers_of {i : Instr} {row : AnswerRow} (hi : workOf i = some (.answer row)) {e : WorkEntry} {rest : List WorkEntry}
    {s : State} (h : s.AnswerDue e rest) (hr : e.answerRow = row) {x : State} (hx : s.answerHead row = x) : s.Answers i row x := by
  have hfront : s.responder.answering = e :: rest := h
  refine ⟨?_, hx, fun hone => ?_⟩
  · rw [exec_of_ready hi (by simp [Work.ready, hfront, hr]), Work.perform, hx]
  · rw [State.answerAll, hone]
    show s.answerNext = x
    rw [State.answerNext, hfront]
    show s.answerHead e.answerRow = x
    rw [hr, hx]

/-- A claim command answered, with a reply place or by group. -/
theorem State.claim_answers {i : Instr} {row : AnswerRow} (hi : workOf i = some (.answer row)) {e : WorkEntry} {rest : List WorkEntry}
    {s : State} (h : s.AnswerDue e rest) (hplace : e.origin = .group ∨ e.place = true) (hr : e.answerRow = row)
    {f : ClaimRecord → Status × ClaimRecord} (hf : ∀ u : State, u.answerBy row e = u.answerClaim f) {st : Status} {c : ClaimRecord}
    (hst : st = .ok ∨ isRefusal st = true) (hc : f s.responder.claim = (st, c)) :
    s.Answers i row (s.claimAnswered e rest st c) := by
  refine State.answers_of hi h hr ?_
  have ha : (s.unanswered rest).answerBy row e =
      (st, claimBody c, { s.unanswered rest with responder := { (s.unanswered rest).responder with claim := c } }) := by
    rw [hf, State.answerClaim, show f (s.unanswered rest).responder.claim = (st, c) from hc]
  rw [State.answerHead_eq h hr ha, State.claimAnswered]
  by_cases hg : e.origin = .group
  · rw [if_pos hg, if_pos hg]
    rcases hst with rfl | hst
    · rfl
    · rw [if_pos hst, if_neg (fun hok => by rw [hok] at hst; cases hst)]
  · rw [if_neg hg, if_neg hg, if_neg (by simp [hplace.resolve_left hg])]
    rfl

theorem WorkEntry.answerRow_command {e : WorkEntry} {code : Nat} (h : e.IsCommand code) :
    e.answerRow = if code = 1 then .claim else if code = 2 then .renew else .release := by
  obtain ⟨hkind, rfl⟩ := h
  rw [WorkEntry.answerRow, hkind]

theorem ClaimRecord.claim_node (id lease : Nat) (c : ClaimRecord) :
    c.claim (.node id) lease =
      match c.holder with
      | none => (.ok, { holder := some id, lease := clipLease lease })
      | some h => if h = id then (.ok, { holder := some h, lease := clipLease lease }) else (.notOwner, c) := rfl

/-- Settles O42. -/
theorem claimCommandsAnswered : Obligations.ClaimCommandsAnswered := by
  intro e rest s h hplace c lease
  have hclaim (hcmd : e.IsCommand 1) {st : Status} {d : ClaimRecord} (hst : st = .ok ∨ isRefusal st = true)
      (hd : c.claim e.source (reqOperand e.body) = (st, d)) : s.Answers .claim .claim (s.claimAnswered e rest st d) :=
    State.claim_answers rfl h hplace (WorkEntry.answerRow_command hcmd) (fun u => rfl) hst hd
  have hrenew (hcmd : e.IsCommand 2) {st : Status} {d : ClaimRecord} (hst : st = .ok ∨ isRefusal st = true)
      (hd : c.renew e.source (reqOperand e.body) = (st, d)) : s.Answers .renew .renew (s.claimAnswered e rest st d) :=
    State.claim_answers rfl h hplace (WorkEntry.answerRow_command hcmd) (fun u => rfl) hst hd
  have hrelease (hcmd : e.IsCommand 3) {st : Status} {d : ClaimRecord} (hst : st = .ok ∨ isRefusal st = true)
      (hd : c.release e.source = (st, d)) : s.Answers .release .release (s.claimAnswered e rest st d) :=
    State.claim_answers rfl h hplace (WorkEntry.answerRow_command hcmd) (fun u => rfl) hst hd
  refine ⟨fun hcmd hself => hclaim hcmd (.inr rfl) (by rw [hself]; rfl), fun id hid => ⟨fun hcmd => ⟨fun hh => ?_, ?_⟩,
    fun hcmd => ⟨fun hh => ?_, fun hh => ?_, ?_⟩, fun hcmd => ⟨fun hh => ?_, fun hh => ?_, ?_⟩⟩⟩
  · refine hclaim hcmd (.inl rfl) ?_
    rw [hid, ClaimRecord.claim_node]
    rcases hh with hh | hh
    · rw [hh]; rfl
    · rw [hh]; exact if_pos rfl
  · rintro ⟨k, hh, hne⟩
    refine hclaim hcmd (.inr rfl) ?_
    rw [hid, ClaimRecord.claim_node, hh]
    exact if_neg hne
  · exact hrenew hcmd (.inr rfl) (by rw [ClaimRecord.renew, hh])
  · refine hrenew hcmd (.inl rfl) ?_
    rw [ClaimRecord.renew, hh]
    exact if_pos hid
  · rintro ⟨k, hh, hne⟩
    refine hrenew hcmd (.inr rfl) ?_
    rw [ClaimRecord.renew, hh]
    exact if_neg (by rw [hid]; simpa using hne.symm)
  · exact hrelease hcmd (.inr rfl) (by rw [ClaimRecord.release, hh])
  · refine hrelease hcmd (.inl rfl) ?_
    rw [ClaimRecord.release, hh]
    exact if_pos hid
  · rintro ⟨k, hh, hne⟩
    refine hrelease hcmd (.inr rfl) ?_
    rw [ClaimRecord.release, hh]
    exact if_neg (by rw [hid]; simpa using hne.symm)

/-! ### The other commands (R109, R148, R154, R155) -/

theorem State.clearEvents_eq (set : BitVec 16) (s : State) :
    s.clearEvents set =
      { s with
        events :=
          { s.events with
            pending := s.events.pending &&& ~~~set
            reminder := if s.events.pending &&& ~~~set &&& s.config.enable = 0 then 0 else s.events.reminder }
        responder := if set.getLsbD 8 = true then { s.responder with capture := none, overrun := false } else s.responder } := by
  unfold State.clearEvents State.reminderEnds
  by_cases h : s.events.pending &&& ~~~set &&& s.config.enable = 0
  · rw [if_pos h]
    exact if_pos (beq_iff_eq.mpr h)
  · rw [if_neg h]
    exact if_neg (mt beq_iff_eq.mp h)

theorem freshAlloc_eq (slotCount : Nat) : freshAlloc slotCount = #v[BitVec.ofNat 32 slotCount, 0, 0, 0, 0] := rfl

theorem WorkEntry.IsClear.row {e : WorkEntry} {form : Nat} (h : e.IsClear form) : e.row = clearRow form := by
  rw [WorkEntry.row_command h.1, h.2]; rfl

/-- Settles O46. -/
theorem clearAndHolderCommandsApplied : Obligations.ClearAndHolderCommandsApplied := by
  intro e rest s h u
  refine ⟨fun hcmd kept hkept => ?_, fun hcmd set hset => ?_, fun hclr => ?_, fun hclr => ⟨fun hn => ?_, fun i hi => ?_⟩, fun hclr => ?_,
    fun hclr => ?_, fun hcmd => ?_, fun hcmd => ?_⟩
  · subst hkept
    exact exec_applied (row := .flushDropQueue) rfl h (WorkEntry.row_command hcmd) rfl
  · subst hset
    refine exec_applied (row := .clearEvents) rfl h (WorkEntry.row_command hcmd) (congrArg (fun t => plainly (.ok, [], t)) ?_)
    exact State.clearEvents_eq _ u
  · exact exec_applied (row := .clearCountersNode) rfl h hclr.row (congrArg plainly (if_pos hclr.2))
  · exact exec_applied (row := .clearCountersContext) rfl h hclr.row (congrArg plainly (if_pos hn))
  · refine exec_applied (row := .clearCountersContext) rfl h hclr.row (congrArg plainly ((if_neg (by omega)).trans ?_))
    rw [hi, show ctxOf i.val = i from Fin.ext (Nat.mod_eq_of_lt i.isLt)]
    rfl
  · exact exec_applied (row := .clearCountersAll) rfl h hclr.row rfl
  · exact exec_applied (row := .clearCountersNode) rfl h hclr.row (congrArg plainly (if_neg (by rw [hclr.2]; decide)))
  · have hrun : exec .takeHolder s = .next (u.takeHolder.2.applied e u.takeHolder.1 []).finish :=
      exec_applied (row := .takeHolder) rfl h (WorkEntry.row_command hcmd) rfl
    rw [hrun, State.takeHolder]
    cases hh : s.responder.holder
    · rw [if_neg (by rw [show u.responder.holder = false from hh]; decide)]; rfl
    · rw [if_pos (show u.responder.holder = true from hh)]; rfl
  · have hrun : exec .dropHolder s = .next (u.dropHolder.2.applied e u.dropHolder.1 []).finish :=
      exec_applied (row := .dropHolder) rfl h (WorkEntry.row_command hcmd) rfl
    rw [hrun, State.dropHolder]
    cases hh : s.responder.holder
    · rw [if_neg (by rw [show u.responder.holder = false from hh]; decide)]; rfl
    · rw [if_pos (show u.responder.holder = true from hh)]; rfl

/-! ### RESTART_RING and NODE_RESET (R149), and the soft reset (R158) -/

/-- The report of a command that is answered before it acts. -/
theorem State.report_release {e : WorkEntry} (hk : e.kind = .command) (r : Release) (u : State) :
    State.report e (.ok, [], 0, some r, u) =
      (if e.origin = .group then u else if e.origin = .unicast ∧ e.place = false then u else u.fillReply e .ok [] (some r)).addRelease e (some r) := by
  simp only [State.report, hk, isRefusal]
  by_cases hg : e.origin = .group <;> simp [hg]

/-- Settles O47. -/
theorem releasedCommandsApplied : Obligations.ReleasedCommandsApplied := by
  intro e rest s i r h hk hi u
  have hrun : exec i s = .next (State.report e (.ok, [], 0, some r, u)).finish := by
    rcases hi with ⟨rfl, rfl, hcode⟩ | ⟨rfl, rfl, hcode⟩
    · exact exec_apply (row := .restartRing) rfl h (WorkEntry.row_command ⟨hk, hcode⟩)
    · exact exec_apply (row := .nodeReset) rfl h (WorkEntry.row_command ⟨hk, hcode⟩)
  rw [State.report_release hk] at hrun
  refine ⟨fun id ho hp hs => ?_, fun ho => ?_, fun ho hr => ?_⟩
  · rw [hrun, if_neg (by simp [ho]), if_neg (by simp [hp]), State.fillReply_unicast ho hs, State.addRelease]
    simp [ho, hp]
  · rw [hrun, if_neg (by simp [ho]), if_neg (by simp [ho]), State.fillReply_self ho, State.addRelease]
    simp [ho]
    rfl
  · rw [hrun, if_pos ho, State.addRelease]
    simp [ho, State.inRound_of (s := u) hr]

/-- Settles O48. -/
theorem softResetValues : Obligations.SoftResetValues := by
  refine ⟨fun s => rfl, fun s ha hm hr hp => ?_⟩
  exact exec_of_ready (w := .softReset) rfl (by simp [Work.ready, ha, hm, hr, hp])

/-! ### The steps of a round start (R153, R170, R176) -/

theorem find?_of_tag {es : List OrigEntry} (hnd : (es.map OrigEntry.tag).Nodup) {e : OrigEntry} (he : e ∈ es) {p : OrigEntry → Bool}
    (hp : p e = true) (htag : ∀ x, p x = true → x.tag = e.tag) : es.find? p = some e := by
  have hex : (es.find? p).isSome := List.find?_isSome.mpr ⟨e, he, hp⟩
  obtain ⟨x, hx⟩ := Option.isSome_iff_exists.mp hex
  rw [hx, List.inj_on_of_nodup_map hnd (List.mem_of_find?_eq_some hx) he (htag x (List.find?_some hx))]

theorem State.mem_due_iff {s : State} (h : s.responder.answering = []) {w : Work} : w ∈ s.due ↔ w ∈ s.candidates ∧ w.ready s = true := by
  rw [State.due, h, List.mem_filter]

theorem State.ready_of_mem_due' {s : State} {w : Work} (h : w ∈ s.due) (hw : ∀ row, w ≠ .answer row) : w.ready s = true := by
  cases ha : s.responder.answering with
  | nil => exact ((State.mem_due_iff ha).mp h).2
  | cons e rest =>
    rw [State.due, ha, List.mem_singleton] at h
    exact absurd h (hw _)

/-- Settles O52. -/
theorem roundStartStepsDue : Obligations.RoundStartStepsDue := by
  refine ⟨fun s hh hl => ?_, fun tag e s hnd he ht hsent hrem => ?_, fun s => ⟨fun hu => ⟨fun ha => ?_, ?_⟩, fun hl => ⟨fun ha => ?_, ?_⟩,
    fun hu hmem => ?_, fun hl hmem => ?_⟩, fun s hs => ?_⟩
  · have hready : s.responder.claim.expired = true := by
      rw [ClaimRecord.expired, hl, Option.isSome_iff_ne_none.mpr hh]; rfl
    exact exec_of_ready (w := .claimExpired) rfl hready
  · have hexp : (e.tag == tag.val && e.expired) = true := by simp [ht, OrigEntry.expired, hsent, hrem]
    have hfind : (s.originator.find? fun x => x.tag == tag.val && x.expired) = some e :=
      find?_of_tag hnd he hexp fun x hx => by simp only [Bool.and_eq_true, beq_iff_eq] at hx; rw [hx.1, ht]
    refine (exec_of_ready (w := .transactionTimeout tag.val) rfl (List.any_eq_true.mpr ⟨e, he, hexp⟩)).trans (next_congr ?_)
    show s.timeOut tag.val = _
    rw [State.timeOut, hfind, ← ht]
    rfl
  · exact (State.mem_due_iff ha).mpr ⟨by simp [State.candidates], hu⟩
  · show s.takeUp = _
    rw [State.takeUp, EventUnit.takeUp, if_pos hu]
  · exact (State.mem_due_iff ha).mpr ⟨by simp [State.candidates], hl⟩
  · show s.takeLate = _
    rw [State.takeLate, EventUnit.takeLate, if_pos hl]
  · have h : s.events.upDue = true := State.ready_of_mem_due' hmem fun row => by simp
    rw [hu] at h; cases h
  · have h : s.events.lateDue = true := State.ready_of_mem_due' hmem fun row => by simp
    rw [hl] at h; cases h
  · refine (exec_of_ready (w := .noticeReminder) rfl hs).trans (next_congr ?_)
    show s.reminderStart = _
    rw [State.reminderStart]
    have hruns : s.reminderRuns = true ↔ s.events.pending &&& s.config.enable ≠ 0 ∧ s.config.target ≠ .none := by
      simp [State.reminderRuns]
    by_cases hrun : s.events.pending &&& s.config.enable ≠ 0 ∧ s.config.target ≠ .none
    · rw [if_pos hrun, if_pos (hruns.mpr hrun)]; rfl
    · rw [if_neg hrun, if_neg (mt hruns.mp hrun)]

end Sys2Proof.Machine
end

section
/-!
READ and SWAP, and the words of the spaces (9.2, 9.3, 9.6, 12.3): O41.
-/

namespace Sys2Proof.Machine

open Sys2Proof

/-! ### Answers with a reply place -/

/-- A request with a reply place is answered by its row, and its place is filled. -/
theorem State.placed_answers {i : Instr} {row : AnswerRow} (hi : workOf i = some (.answer row)) {e : WorkEntry} {rest : List WorkEntry}
    {s : State} (h : s.AnswerDue e rest) (hg : e.origin ≠ .group) (hp : e.place = true) (hr : e.answerRow = row) {st : Status}
    {body : List Word} {t : State} (ha : (s.unanswered rest).answerBy row e = (st, body, t)) :
    s.Answers i row (t.fillReply e st body none) := by
  refine State.answers_of hi h hr ?_
  rw [State.answerHead_eq h hr ha, if_neg hg, if_neg (by simp [hp])]

theorem State.answerRead_of {s : State} {body : List Word} {size : Nat} (hsize : spaceSize (reqSpace body) = some size) :
    s.answerRead body =
      if !(1 ≤ reqCount body && reqCount body ≤ 10) then (.badRequest, [])
      else if size < reqIndex body + reqCount body then (.outOfRange, [])
      else (.ok, (List.range (reqCount body)).map fun k => s.readWord (reqSpace body) (reqIndex body + k)) := by
  rw [State.answerRead, hsize]

/-- The values that an allocation word may take (R156). -/
theorem swapValid_iff (i : Fin 5) (new : Word) (slotCount : Nat) :
    swapValid i.val new slotCount = true ↔
      (i = 0 → new.toNat ≤ slotCount) ∧ (i = 1 → new.getLsbD 0 = false) ∧
        (i = 4 → ∀ k : Nat, 25 ≤ k → k < 32 → new.getLsbD k = false) := by
  have hbits : bits new 31 25 = 0 ↔ ∀ k : Nat, 25 ≤ k → k < 32 → new.getLsbD k = false := by
    refine ⟨fun h k hk hk' => ?_, fun h => Nat.eq_of_testBit_eq fun j => ?_⟩
    · have hj := testBit_bits new 31 25 (k - 25)
      rw [h, Nat.zero_testBit, decide_eq_true (show k - 25 < 31 - 25 + 1 by omega), show 25 + (k - 25) = k by omega] at hj
      exact hj.symm
    · rw [testBit_bits, Nat.zero_testBit]
      by_cases hj : j < 31 - 25 + 1
      · rw [h (25 + j) (by omega) (by omega), Bool.and_false]
      · rw [decide_eq_false hj, Bool.false_and]
  fin_cases i
  · simp [swapValid]
  · simp [swapValid, bit]
  · simp [swapValid]
  · simp [swapValid]
  · simp [swapValid, hbits]

/-- The answer to a SWAP of one of the five allocation words (R156). -/
theorem State.answerSwap_of {s : State} {body : List Word} {i : Fin 5} (hi : bits (bodyWord body 0) 2 0 = i.val) :
    s.answerSwap body =
      if !s.responder.holder then (.notHolder, [], s)
      else if !swapValid i.val (bodyWord body 2) s.tracker.params.slotCount then (.badRequest, [s.responder.alloc[i]], s)
      else if s.responder.alloc[i] = bodyWord body 1 then
        (.ok, [s.responder.alloc[i]], { s with responder := { s.responder with alloc := s.responder.alloc.set i (bodyWord body 2) } })
      else (.compareFailed, [s.responder.alloc[i]], s) := by
  rw [State.answerSwap, dif_pos (by omega)]
  simp only [hi, Fin.getElem_fin]

/-! ### The words of the spaces -/

/-- There is no space from 12 on (R138). -/
theorem spaceSize_none {space : Nat} (h : 12 ≤ space) : spaceSize space = none := by
  obtain ⟨k, rfl⟩ := Nat.exists_eq_add_of_le' h
  rfl

theorem flag_true_29 : flag 29 true = 0x20000000#32 := rfl

theorem editListWord_target (k : Nat) (p : PlanStore) :
    editListWord (2 + 2 * k) p = match p.edits[k]? with | none => 0 | some e => editTargetWord e.target := by
  rw [Nat.add_comm, editListWord]
  · rw [show (2 * k + 2 - 2) / 2 = k by omega]
    cases p.edits[k]? with
    | none => rfl
    | some e => exact if_pos (by omega)
  · omega
  · omega

theorem editListWord_value (k : Nat) (p : PlanStore) :
    editListWord (3 + 2 * k) p = match p.edits[k]? with | none => 0 | some e => editValueWord e := by
  rw [Nat.add_comm, editListWord]
  · rw [show (2 * k + 3 - 2) / 2 = k by omega]
    cases p.edits[k]? with
    | none => rfl
    | some e => exact if_neg (by omega)
  · omega
  · omega

theorem bankWord_slot (b : Bank) (k : Fin 48) : bankWord b k.val = planEntryWord b.slots[k] := by
  rw [bankWord, dif_pos k.isLt]; rfl

theorem bankWord_default (b : Bank) : bankWord b 48 = planEntryWord b.dflt := by
  rw [bankWord, dif_neg (by omega)]

theorem ctxOf_mul_div (i : Fin 16) {r n : Nat} (hr : r < n) : ctxOf ((n * i.val + r) / n) = i := by
  rw [Nat.mul_add_div (by omega), Nat.div_eq_of_lt hr, Nat.add_zero]
  exact Fin.ext (Nat.mod_eq_of_lt i.isLt)

theorem contextsWord_of (s : State) (i : Fin 16) {r : Nat} (hr : r < 3) :
    contextsWord (3 * i.val + r) s =
      if r = 0 then ctxConfigWord s.contexts[i].config else if r = 1 then ctxSummary1 s.contexts[i] else ctxSummary2 s.contexts[i] := by
  have hmod : (3 * i.val + r) % 3 = r := by omega
  simp only [contextsWord, ctxOf_mul_div i hr, hmod]

theorem filterRefCode_eq (f : Option (Fin 8)) : filterRefCode f = (f.map Fin.val).getD 15 := by cases f <;> rfl

theorem seqCode_eq (q : Option (BitVec 3)) : seqCode q = (q.map BitVec.toNat).getD 8 := by cases q <;> rfl

theorem ctxConfigWord_eq (c : CtxConfig) : ctxConfigWord c =
    (field 31 30 (match c.direction with | .dropSide => 0 | .insertSide => 1 | .code2 => 2 | .code3 => 3) |||
      field 29 23 c.tag.toNat ||| field 22 19 ((c.filterA.map Fin.val).getD 15) ||| field 18 15 ((c.filterB.map Fin.val).getD 15) |||
      field 14 12 (match c.combine with | .any => 0 | .all => 1 | .none => 2 | .notAll => 3)) := by
  rw [ctxConfigWord, filterRefCode_eq, filterRefCode_eq]
  cases c.direction <;> cases c.combine <;> rfl

theorem ctxSummary1_eq (c : Context) : ctxSummary1 c =
    (field 31 29 (match c.state with | .idle => 0 | .armed => 1 | .running => 2 | .draining => 3 | .held => 4) |||
      field 28 27 (match c.resume with | .none => 0 | .running => 1 | .draining => 2) |||
      field 3 0 ((c.seq.map BitVec.toNat).getD 8)) := by
  rw [ctxSummary1, seqCode_eq]
  cases c.state <;> cases c.resume <;> rfl

theorem flag_eq_ite (i : Nat) (b : Bool) : flag i b = if b = true then field i i 1 else 0 := rfl

theorem ctxSummary2_eq (c : Context) : ctxSummary2 c =
    (if c.config.direction = .insertSide then
      field 31 28 c.cellsSent ||| (if c.inFlight = true then 0x08000000#32 else 0) ||| field 2 0 c.queue.length
    else
      field 31 27 ((c.assembly.map Assembly.cells).getD 0) |||
        (if ∃ a : Assembly, c.assembly = some a ∧ a.rejected = true then 0x04000000#32 else 0) |||
        (if c.resync = true then 0x02000000#32 else 0)) := by
  rw [ctxSummary2]
  refine if_congr Iff.rfl rfl ?_
  cases ha : c.assembly with
  | none => simp [flag_eq_ite, field]
  | some a =>
    simp only [Option.some.injEq, exists_eq_left', flag_eq_ite]
    rfl

/-- A context counter's place in COUNTERS (R118, R140). -/
theorem countersWord_context (s : State) (i : Fin 16) (k : Fin 11) :
    countersWord (35 + 11 * i.val + k.val) s = s.contexts[i].counters[k].setWidth 32 := by
  have hk := k.isLt
  have hmod : Fin.ofNat 11 ((35 + 11 * i.val + k.val - 35) % 11) = k := Fin.ext (by show _ % 11 % 11 = k.val; omega)
  have hdiv : ctxOf ((35 + 11 * i.val + k.val - 35) / 11) = i := by
    rw [show 35 + 11 * i.val + k.val - 35 = 11 * i.val + k.val by omega, ctxOf_mul_div i hk]
  rw [countersWord, dif_neg (by omega), if_neg (by omega), if_neg (by omega), if_neg (by omega)]
  simp only [hmod, hdiv]

theorem filtersWord_of (s : State) (i : Fin 8) {r : Nat} (hr : r < 2) :
    filtersWord (2 * i.val + r) s = if r = 0 then s.filters[i].pattern else s.filters[i].mask := by
  have hi := i.isLt
  have hdiv : Fin.ofNat 8 ((2 * i.val + r) / 2) = i := Fin.ext (by show _ / 2 % 8 = i.val; omega)
  have hmod : (2 * i.val + r) % 2 = r := by omega
  simp only [filtersWord, hdiv, hmod]

theorem captureWord_none (j : Nat) : captureWord j none = 0 := rfl

/-- Settles O41. -/
theorem readAndSwapAnswered : Obligations.ReadAndSwapAnswered := by
  refine ⟨fun e rest s h hg hp => ?_, ⟨by decide, fun space h => ?_⟩, fun s => ?_, fun s word hword => ?_, fun s i c hc => ?_,
    fun s i => ?_, fun s => ?_⟩
  · intro u
    refine ⟨fun hk => ?_, fun hk => ?_⟩
    · intro answered
      have hanswer {st : Status} {body : List Word} (ha : u.answerRead e.body = (st, body)) : answered st body :=
        State.placed_answers rfl h hg hp (by rw [WorkEntry.answerRow, hk]) (by
          show (let (st, body) := u.answerRead e.body; (st, body, u)) = _
          rw [ha])
      refine ⟨fun hno => hanswer (by rw [State.answerRead, hno]), fun size hsize => ?_⟩
      rw [State.answerRead_of hsize] at hanswer
      refine ⟨fun hcount => hanswer (if_pos ?_), fun hcount => ⟨fun hout => hanswer ?_, fun hin => hanswer ?_⟩⟩
      · rcases hcount with hcount | hcount <;> simp [hcount]
      · rw [if_neg (by simp [hcount]), if_pos hout]
      · rw [if_neg (by simp [hcount]), if_neg (by omega)]
    · intro answered
      have hanswer {st : Status} {body : List Word} {t : State} (ha : u.answerSwap e.body = (st, body, t)) : answered st body t :=
        State.placed_answers rfl h hg hp (by rw [WorkEntry.answerRow, hk]) ha
      refine ⟨fun hi => hanswer ?_, fun i hi => ?_⟩
      · rw [State.answerSwap, dif_neg (by omega)]
      · intro old new valid
        rw [State.answerSwap_of hi] at hanswer
        have hvalid : swapValid i.val new s.tracker.params.slotCount = true ↔ valid := swapValid_iff i new _
        refine ⟨fun hh => hanswer (if_pos (by rw [show u.responder.holder = false from hh]; rfl)), fun hh => ?_⟩
        rw [show u.responder.holder = true from hh, if_neg (by decide)] at hanswer
        refine ⟨fun hv => hanswer (if_pos ?_), fun hv hne => hanswer ((if_neg ?_).trans (if_neg hne)),
          fun hv heq => hanswer ((if_neg ?_).trans (if_pos heq))⟩
        · rw [Bool.not_eq_true']; exact Bool.eq_false_iff.mpr (mt hvalid.mp hv)
        · rw [show swapValid i.val (bodyWord e.body 2) u.tracker.params.slotCount = true from hvalid.mpr hv]; decide
        · rw [show swapValid i.val (bodyWord e.body 2) u.tracker.params.slotCount = true from hvalid.mpr hv]; decide
  · exact spaceSize_none h
  · refine ⟨rfl, rfl, rfl, rfl, rfl, rfl, rfl, ?_, ?_, rfl, rfl, rfl, rfl, ?_, rfl, rfl⟩
    · show field 2 0 (trackingCode s.tracker.tracking) ||| flag 4 s.isMaster = _
      cases s.tracker.tracking <;> cases hr : s.tracker.role <;> simp [State.isMaster, hr] <;> rfl
    · show targetWord s.config.target = _
      cases s.config.target <;> rfl
    · show BitVec.ofNat 32 (periodMicros s.config.period) = _
      cases s.config.period <;> rfl
  · have hw : word = planEntryWord := funext fun e => (hword e).trans (by cases e <;> rfl)
    subst hw
    refine ⟨fun k => ⟨bankWord_slot _ k, bankWord_slot _ k⟩, bankWord_default _, bankWord_default _, fun r hr => ?_⟩
    have hrw : r = rotationWord := funext fun x => (hr x).trans rfl
    subst hrw
    refine ⟨rfl, ?_, rfl, fun k hk => ⟨fun hnone => ?_, fun e he => ?_⟩⟩
    · show commitWord s.plan.commit = _
      cases s.plan.commit <;> rfl
    · show editListWord _ _ = _ ∧ editListWord _ _ = _
      rw [editListWord_target, editListWord_value, hnone]
      exact ⟨rfl, rfl⟩
    · show editListWord _ _ = _ ∧ editListWord _ _ = _
      rw [editListWord_target, editListWord_value, he]
      refine ⟨?_, by cases e <;> rfl⟩
      cases e with
      | slot bk j v => cases bk <;> simp [editTargetWord, Edit.target, bankIdFlag, flag_true_29]
      | bankDefault bk v => cases bk <;> simp [editTargetWord, Edit.target, bankIdFlag, flag_true_29]
      | rotation x => rfl
  · subst hc
    refine ⟨?_, ?_, ?_, countersWord_context s i⟩
    · exact (contextsWord_of s i (r := 0) (by omega)).trans (ctxConfigWord_eq _)
    · exact (contextsWord_of s i (r := 1) (by omega)).trans (ctxSummary1_eq _)
    · exact (contextsWord_of s i (r := 2) (by omega)).trans (ctxSummary2_eq _)
  · exact ⟨filtersWord_of s i (r := 0) (by omega), filtersWord_of s i (r := 1) (by omega)⟩
  · refine ⟨fun i => ?_, rfl, rfl, rfl, rfl, fun i => ?_, rfl, rfl, rfl, fun hn => ⟨?_, fun k h4 h9 => ?_⟩, fun c hc => ?_⟩
    · show countersWord i.val s = _
      rw [countersWord, dif_pos i.isLt]; rfl
    · show s.responder.alloc[Fin.ofNat 5 i.val] = _
      exact congrArg (fun j : Fin 5 => s.responder.alloc[j]) (Fin.ext (Nat.mod_eq_of_lt i.isLt))
    · show flag 0 s.responder.capture.isSome ||| flag 1 s.responder.overrun = _
      rw [hn]
      cases s.responder.overrun <;> rfl
    · obtain ⟨j, rfl⟩ := Nat.exists_eq_add_of_le' h4
      show captureWord (j + 4) s.responder.capture = 0
      rw [hn, captureWord_none]
    · refine ⟨?_, ?_, ?_, ?_, ?_, ?_⟩
      · show flag 0 s.responder.capture.isSome ||| flag 1 s.responder.overrun = _
        rw [hc]
        show flag 0 true ||| flag 1 s.responder.overrun = _
        cases s.responder.overrun <;> decide
      · show captureWord 4 s.responder.capture = _
        rw [hc]; rfl
      · show captureWord 5 s.responder.capture = _
        rw [hc]; rfl
      · show captureWord 6 s.responder.capture = _
        rw [hc, captureWord]
        cases c.source <;> rfl
      · show captureWord 7 s.responder.capture = _
        rw [hc]; rfl
      · show captureWord 8 s.responder.capture = _
        rw [hc]; rfl

end Sys2Proof.Machine
end

section
/-!
Writes at their application and what each writable word takes (R138, R139, R145): O49, O50.
-/

namespace Sys2Proof.Machine

open Sys2Proof

/-! ### A write as a whole (R145) -/

theorem WorkEntry.row_write {e : WorkEntry} (h : e.kind ≠ .command) : e.row = writeRow e.body := by
  unfold WorkEntry.row
  split
  case h_1 hk => exact absurd hk h
  case h_2 => rfl

/-- A write is applied by its row as by any other. -/
theorem exec_write {i : Instr} {e : WorkEntry} {rest : List WorkEntry} {s : State} (h : s.HeadDue e rest) (hk : e.kind ≠ .command)
    (hi : workOf i = some (.apply (writeRow e.body))) (hrow : ∀ u : State, u.applyBy (writeRow e.body) e.body = u.applyWrite e.body) :
    exec i s = .next (State.report e ((s.popped rest).applyWrite e.body)).finish := by
  rw [exec_apply hi h (WorkEntry.row_write hk), hrow]

theorem State.applyWrite_refused {u : State} {body : List Word} {st : Status} (h : writeCheck body = some st) :
    u.applyWrite body = (st, [], reqIndex body, none, u) := by rw [State.applyWrite, h]

theorem State.applyWrite_checked {u t : State} {body : List Word} (h : writeCheck body = none) {st : Status} {k : Nat}
    (hw : u.writeWords (reqSpace body) (reqIndex body) (reqData body) = (st, k, t)) :
    u.applyWrite body = (st, if st = .ok then [] else [field 7 0 k], k, none, t) := by rw [State.applyWrite, h, hw]

/-- Where nothing is refused, no index is recorded. -/
theorem State.report_ok (e : WorkEntry) (body : List Word) (k : Nat) (t : State) :
    State.report e (.ok, body, k, none, t) = t.applied e .ok body := by
  rw [State.applied, State.report_eq, State.report_eq]
  rfl

theorem State.writeWords_cons {space i : Nat} {w : Word} {st : Status} {s t : State} (h : s.writeWord space i w = (st, t)) (ws : List Word) :
    s.writeWords space i (w :: ws) = if st = .ok then t.writeWords space (i + 1) ws else (st, i, t) := by
  rw [State.writeWords, h]

theorem indexWritable_iff (space index : Nat) :
    indexWritable space index = true ↔ 1 ≤ space ∧ space ≤ 4 ∨ space = 6 ∧ index % 3 = 0 ∨ space = 7 := by
  by_cases h : space < 8
  · interval_cases space <;> simp [indexWritable]
  · obtain ⟨k, rfl⟩ := Nat.exists_eq_add_of_le' (Nat.not_lt.mp h)
    simp only [indexWritable, Bool.false_eq_true, false_iff]
    omega

theorem writeCheck_of {body : List Word} {size : Nat} (h : spaceSize (reqSpace body) = some size) :
    writeCheck body =
      if body.length ≤ 1 then some .badRequest
      else if size < reqIndex body + (body.length - 1) then some .outOfRange
      else if ∀ k : Nat, k < body.length - 1 → indexWritable (reqSpace body) (reqIndex body + k) = true then none
      else some .readOnly := by
  have hlen : (reqData body).length = body.length - 1 := List.length_drop
  rw [writeCheck, h]
  simp only [hlen]
  refine if_congr ?_ rfl (if_congr Iff.rfl rfl (if_congr ?_ rfl rfl))
  · rw [List.isEmpty_iff, ← List.length_eq_zero_iff, hlen]; omega
  · simp

/-- Settles O49. -/
theorem writesApplied : Obligations.WritesApplied := by
  refine ⟨fun i e rest s h hk hi => ?_, fun space i s => rfl, fun space i w ws st s t hw => ⟨fun hok => ?_, fun hno => ?_⟩,
    indexWritable_iff, fun body h => ?_, fun body size h => ?_⟩
  · intro u
    have hrun : exec i s = .next (State.report e (u.applyWrite e.body)).finish := by
      rcases hi with ⟨rfl, hr⟩ | ⟨rfl, hr⟩ | ⟨rfl, hr⟩ | ⟨rfl, hr⟩ | ⟨rfl, hr⟩ | ⟨rfl, hr⟩ | ⟨rfl, hr⟩ | ⟨rfl, hr⟩ <;>
        exact exec_write h hk (by rw [hr]; rfl) (fun u => by rw [hr]; rfl)
    refine ⟨fun st hst => ?_, fun hno st k t hw => ⟨fun hok => ?_, fun hne => ?_⟩⟩
    · rw [hrun, State.applyWrite_refused hst]
    · rw [hrun, State.applyWrite_checked hno hw, if_pos hok, hok, State.report_ok]
    · rw [hrun, State.applyWrite_checked hno hw, if_neg hne]
  · rw [State.writeWords_cons hw, if_pos hok]
  · rw [State.writeWords_cons hw, if_neg hno]
  · rw [writeCheck, spaceSize_none h]
  · rw [writeCheck_of h]
    refine ⟨fun hlen => if_pos hlen, fun hlen => ⟨fun hout => ?_, fun hin => ⟨fun hall => ?_, fun hall => ?_⟩⟩⟩
    · rw [if_neg (by omega), if_pos hout]
    · rw [if_neg (by omega), if_neg (by omega), if_pos hall]
    · rw [if_neg (by omega), if_neg (by omega), if_neg hall]

/-! ### NODE_CONFIG (R139, R175) -/

theorem State.writeEnable_eq (w : Word) (s : State) :
    s.writeWord 1 1 w =
      (.ok, { s with
        config := { s.config with enable := w.setWidth 16 }
        events := { s.events with reminder := if s.events.pending &&& w.setWidth 16 = 0 then 0 else s.events.reminder } }) := by
  show (Status.ok, State.reminderEnds _) = _
  unfold State.reminderEnds
  by_cases h : s.events.pending &&& w.setWidth 16 = 0
  · rw [if_pos h]
    exact congrArg (Prod.mk Status.ok) (if_pos (beq_iff_eq.mpr h))
  · rw [if_neg h]
    exact congrArg (Prod.mk Status.ok) (if_neg (mt beq_iff_eq.mp h))

theorem periodOfMicros_micros (p : Period) : periodOfMicros (periodMicros p) = some p := by cases p <;> rfl

theorem periodOfMicros_none {v : Nat} (h : ∀ p : Period, v ≠ periodMicros p) : periodOfMicros v = none := by
  have h125 : v ≠ 125 := h .us125
  have h250 : v ≠ 250 := h .us250
  have h500 : v ≠ 500 := h .us500
  have h1000 : v ≠ 1000 := h .us1000
  simp [periodOfMicros, h125, h250, h500, h1000]

/-! ### Contexts and filters (R75, R100, R102) -/

theorem State.writeWord_context (s : State) (i : Fin 16) (w : Word) :
    s.writeWord 6 (3 * i.val) w = ((s.contexts[i].writeConfig w).1, s.mapCtx i fun _ => (s.contexts[i].writeConfig w).2) := by
  have hi : ctxOf (3 * i.val / 3) = i := ctxOf_mul_div i (r := 0) (by omega)
  simp only [State.writeWord, hi]

/-- A configuration taken in IDLE; a change of direction discards the queue (R75). -/
theorem Context.writeConfig_taken {c : Context} {w : Word} {g : CtxConfig} (hg : ctxConfigOf w = some g) (hs : c.state = .idle) :
    c.writeConfig w = (.ok, { c with config := g, queue := if g.direction = c.config.direction then c.queue else [] }) := by
  rw [Context.writeConfig, hg]
  exact if_neg (not_not_intro hs)

theorem Context.writeConfig_busy {c : Context} {w : Word} {g : CtxConfig} (hg : ctxConfigOf w = some g) (hs : c.state ≠ .idle) :
    c.writeConfig w = (.wrongState, c) := by
  rw [Context.writeConfig, hg]
  exact if_pos hs

theorem Context.writeConfig_refused {c : Context} {w : Word} (hno : ctxConfigOf w = none) (hs : c.state = .idle) :
    c.writeConfig w = (.badRequest, c) := by
  rw [Context.writeConfig, hno, hs]
  rfl

theorem State.writeWord_filter (s : State) (u : Fin 8) {r : Nat} (hr : r < 2) (w : Word) :
    s.writeWord 7 (2 * u.val + r) w =
      (.ok, { s with filters := s.filters.set u (if r = 0 then { s.filters[u] with pattern := w } else { s.filters[u] with mask := w }) }) := by
  have hu := u.isLt
  have hdiv : Fin.ofNat 8 ((2 * u.val + r) / 2) = u := Fin.ext (by show _ / 2 % 8 = u.val; omega)
  have hmod : (2 * u.val + r) % 2 = r := by omega
  simp only [State.writeWord, writeFilterWord, hdiv, hmod]

/-! ### What a word means (12.3) -/

theorem filterRefOf_none_iff {c : Nat} : filterRefOf c = none ↔ 8 ≤ c ∧ c ≠ 15 := by
  unfold filterRefOf
  repeat' split
  all_goals simp; omega

theorem filterRefOf_some {c : Nat} {a : Option (Fin 8)} (h : filterRefOf c = some a) : (a.map Fin.val).getD 15 = c := by
  unfold filterRefOf at h
  split at h
  case isTrue hlt =>
    cases h
    exact Nat.mod_eq_of_lt hlt
  case isFalse =>
    split at h
    case isTrue heq => cases h; exact heq.symm
    case isFalse => cases h

theorem combineOf_none_iff {c : Nat} : combineOf c = none ↔ 4 ≤ c := by
  by_cases h : c < 4
  · interval_cases c <;> simp [combineOf]
  · obtain ⟨k, rfl⟩ := Nat.exists_eq_add_of_le' (Nat.not_lt.mp h)
    exact iff_of_true rfl (by omega)

theorem combineOf_some {c : Nat} {m : Combine} (h : combineOf c = some m) :
    combineCode m = c := by
  have hc : c < 4 := by
    by_contra hge
    rw [combineOf_none_iff.mpr (Nat.not_lt.mp hge)] at h; cases h
  interval_cases c <;> cases h <;> rfl

theorem directionOf_code {c : Nat} (h : c < 4) :
    (match directionOf c with | .dropSide => 0 | .insertSide => 1 | .code2 => 2 | .code3 => 3) = c := by
  interval_cases c <;> rfl

/-- A configuration word is refused for a filter reference or a combine mode (R100). -/
theorem ctxConfigOf_none_iff {w : Word} : ctxConfigOf w = none ↔
    8 ≤ bits w 22 19 ∧ bits w 22 19 ≠ 15 ∨ 8 ≤ bits w 18 15 ∧ bits w 18 15 ≠ 15 ∨ 4 ≤ bits w 14 12 := by
  rw [← filterRefOf_none_iff, ← filterRefOf_none_iff, ← combineOf_none_iff, ctxConfigOf]
  cases filterRefOf (bits w 22 19) <;> cases filterRefOf (bits w 18 15) <;> cases combineOf (bits w 14 12) <;> simp

theorem ctxConfigOf_some {w : Word} {g : CtxConfig} (h : ctxConfigOf w = some g) :
    (match g.direction with | .dropSide => 0 | .insertSide => 1 | .code2 => 2 | .code3 => 3) = bits w 31 30 ∧
      g.tag.toNat = bits w 29 23 ∧ (g.filterA.map Fin.val).getD 15 = bits w 22 19 ∧ (g.filterB.map Fin.val).getD 15 = bits w 18 15 ∧
      (match g.combine with | .any => 0 | .all => 1 | .none => 2 | .notAll => 3) = bits w 14 12 := by
  unfold ctxConfigOf at h
  split at h
  case h_1 a b m ha hb hm =>
    cases h
    exact ⟨directionOf_code (bits_lt w 31 30), Nat.mod_eq_of_lt (bits_lt w 29 23), filterRefOf_some ha, filterRefOf_some hb,
      combineOf_some hm⟩
  case h_2 => cases h

theorem planEntryOf_none_iff {w : Word} : planEntryOf w = none ↔ 6 ≤ bits w 31 29 := by
  have hlt : bits w 31 29 < 8 := bits_lt w 31 29
  unfold planEntryOf
  generalize bits w 31 29 = n at hlt ⊢
  interval_cases n <;> simp

theorem planEntryOf_context {w : Word} {c : Fin 16} (hc : bits w 28 25 = c.val) :
    (bits w 31 29 = 1 → planEntryOf w = some (.tap c)) ∧ (bits w 31 29 = 2 → planEntryOf w = some (.drop c)) ∧
      (bits w 31 29 = 3 → planEntryOf w = some (.insert c)) := by
  have hctx : ctxOf (bits w 28 25) = c := Fin.ext (by rw [hc]; exact Nat.mod_eq_of_lt c.isLt)
  refine ⟨fun h => ?_, fun h => ?_, fun h => ?_⟩ <;> (rw [planEntryOf, h, hctx]; rfl)

/-- A rotation word that R40 lets be stored. -/
def rotationWordLegal (w : Word) : Prop :=
  1 ≤ bits w 31 28 ∧ bits w 31 28 ≤ 12 ∧ ∀ k : Nat, k < 12 → bits w (2 * k + 1) (2 * k) ≠ 3

theorem rotationOf_eq (w : Word) [Decidable (rotationWordLegal w)] :
    rotationOf w =
      if rotationWordLegal w then
        some { length := bits w 31 28
               steps := Vector.ofFn fun k : Fin 12 => (stepOfCode (bits w (2 * k.val + 1) (2 * k.val))).getD .a }
      else none := by
  unfold rotationOf
  exact if_congr (by simp [rotationWordLegal, and_assoc]) rfl rfl

theorem stepOfCode_getD {c : Nat} (h : c < 4) (h3 : c ≠ 3) :
    (match (stepOfCode c).getD .a with | .a => 0 | .b => 1 | .quiet => 2) = c := by
  interval_cases c
  · rfl
  · rfl
  · rfl
  · exact absurd rfl h3

theorem rotationOf_none_iff {w : Word} : rotationOf w = none ↔
    bits w 31 28 = 0 ∨ 12 < bits w 31 28 ∨ ∃ k : Fin 12, bits w (2 * k.val + 1) (2 * k.val) = 3 := by
  classical
  rw [rotationOf_eq]
  by_cases h : rotationWordLegal w
  · rw [if_pos h]
    obtain ⟨h1, h12, hsteps⟩ := h
    refine iff_of_false (by simp) ?_
    rintro (h | h | ⟨k, h⟩)
    · omega
    · omega
    · exact hsteps k.val k.isLt h
  · rw [if_neg h]
    refine iff_of_true rfl ?_
    by_contra hno
    obtain ⟨h0, h12, hsteps⟩ : bits w 31 28 ≠ 0 ∧ ¬ 12 < bits w 31 28 ∧ ¬ ∃ k : Fin 12, bits w (2 * k.val + 1) (2 * k.val) = 3 := by
      simpa only [not_or] using hno
    exact h ⟨by omega, by omega, fun k hk heq => hsteps ⟨⟨k, hk⟩, heq⟩⟩

theorem rotationOf_some {w : Word} {r : Rotation} (h : rotationOf w = some r) : r.length = bits w 31 28 ∧
    ∀ k : Fin 12, (match r.steps[k] with | .a => 0 | .b => 1 | .quiet => 2) = bits w (2 * k.val + 1) (2 * k.val) := by
  classical
  rw [rotationOf_eq] at h
  split at h
  case isTrue hlegal =>
    cases h
    refine ⟨rfl, fun k => ?_⟩
    have hlt : bits w (2 * k.val + 1) (2 * k.val) < 4 :=
      lt_of_lt_of_le (bits_lt w _ _) (Nat.pow_le_pow_right (n := 2) (by omega) (show 2 * k.val + 1 - 2 * k.val + 1 ≤ 2 by omega))
    simpa using stepOfCode_getD hlt (hlegal.2.2 k.val k.isLt)
  case isFalse => cases h

/-! ### Plan entries, bank defaults and the rotation (R46, R47) -/

/-- The space of a bank (12.3). -/
def bankSpace (bk : BankId) : Nat := if bk = .a then 2 else 3

theorem State.writeWord_plan (s : State) (bk : BankId) (index : Nat) (w : Word) :
    s.writeWord (bankSpace bk) index w =
      match bankEdit bk index w with
      | none => (.badRequest, s)
      | some e => ((s.plan.takeEdit e).1, { s with plan := (s.plan.takeEdit e).2 }) := by
  cases bk
  · show ((s.plan.writeWord 2 index w).1, { s with plan := (s.plan.writeWord 2 index w).2 }) = _
    rw [PlanStore.writeWord, if_pos rfl]
    cases bankEdit .a index w <;> rfl
  · show ((s.plan.writeWord 3 index w).1, { s with plan := (s.plan.writeWord 3 index w).2 }) = _
    rw [PlanStore.writeWord, if_neg (by decide), if_pos rfl]
    cases bankEdit .b index w <;> rfl

theorem State.writeWord_rotation (s : State) (w : Word) :
    s.writeWord 4 0 w =
      match rotationOf w with
      | none => (.badRequest, s)
      | some r => ((s.plan.takeEdit (.rotation r)).1, { s with plan := (s.plan.takeEdit (.rotation r)).2 }) := by
  show ((s.plan.writeWord 4 0 w).1, { s with plan := (s.plan.writeWord 4 0 w).2 }) = _
  rw [PlanStore.writeWord, if_neg (by decide), if_neg (by decide)]
  cases rotationOf w <;> rfl

theorem bankEdit_of {w : Word} {e : PlanEntry} (h : planEntryOf w = some e) (bk : BankId) (index : Nat) :
    bankEdit bk index w =
      if h : index < 48 then some (.slot bk ⟨index, h⟩ e) else if e = .follow then none else some (.bankDefault bk e) := by
  rw [bankEdit, h]

theorem bankEdit_none {w : Word} (h : planEntryOf w = none) (bk : BankId) (index : Nat) : bankEdit bk index w = none := by
  rw [bankEdit, h]

/-- Settles O50. -/
theorem writtenWordTaken : Obligations.WrittenWordTaken := by
  intro w s
  have htarget : s.writeWord 1 0 w = match targetOf w with | none => (.badRequest, s) | some t => (.ok, s.writeTarget t) := rfl
  refine ⟨fun id hid hw => ?_, fun hw => ?_, fun hw => ?_, fun h59 h126 h127 => ?_, State.writeEnable_eq w s, rfl, ?_, ?_, fun p hp => ?_,
    fun hp => ?_, ?_, ?_, fun i => ?_, fun u => ⟨State.writeWord_filter s u (r := 0) (by omega) w, State.writeWord_filter s u (r := 1) (by omega) w⟩,
    fun bk e he => ?_, fun space index hspace hno => ?_, fun r hr => ?_, fun hno => ?_, planEntryOf_none_iff, fun h => ?_, fun h => ?_,
    fun h => ?_, fun c hc => planEntryOf_context hc, rotationOf_none_iff, fun r hr => rotationOf_some hr, ctxConfigOf_none_iff,
    fun g hg => ctxConfigOf_some hg⟩
  · rw [htarget, targetOf, if_pos (by omega), hw]; rfl
  · rw [htarget, targetOf, if_neg (by omega), if_pos hw]; rfl
  · rw [htarget, targetOf, if_neg (by omega), if_neg (by omega), if_pos hw]; rfl
  · rw [htarget, targetOf, if_neg (by omega), if_neg h126, if_neg h127]
  · exact if_congr (by simp [and_assoc]) rfl rfl
  · exact if_congr (by simp) rfl rfl
  · show (match periodOfMicros w.toNat with | none => (Status.badRequest, s) | some p => (.ok, { s with config := { s.config with period := p } })) = _
    rw [hp, periodOfMicros_micros]
  · show (match periodOfMicros w.toNat with | none => (Status.badRequest, s) | some p => (.ok, { s with config := { s.config with period := p } })) = _
    rw [periodOfMicros_none hp]
  · exact if_congr (by simp) rfl rfl
  · exact if_congr (by simp) rfl rfl
  · intro c
    rw [State.writeWord_context]
    refine ⟨fun g hg => ⟨fun hs => ?_, fun hs => ?_⟩, fun hno hs => ?_⟩
    · rw [Context.writeConfig_taken hg hs]; rfl
    · rw [Context.writeConfig_busy hg hs, State.mapCtx_eq_self _ _ _ rfl]
    · rw [Context.writeConfig_refused hno hs, State.mapCtx_eq_self _ _ _ rfl]
  · intro space
    have hspace : space = bankSpace bk := rfl
    rw [hspace]
    refine ⟨fun k => ?_, fun hf => ?_, fun hf => ?_⟩
    · rw [State.writeWord_plan, bankEdit_of he, dif_pos k.isLt]
    · rw [State.writeWord_plan, bankEdit_of he, dif_neg (by omega), if_neg hf]
    · rw [State.writeWord_plan, bankEdit_of he, dif_neg (by omega), if_pos hf]
  · obtain ⟨bk, rfl⟩ : ∃ bk, space = bankSpace bk := by
      rcases hspace with rfl | rfl
      · exact ⟨.a, rfl⟩
      · exact ⟨.b, rfl⟩
    rw [State.writeWord_plan, bankEdit_none hno]
  · rw [State.writeWord_rotation, hr]
  · rw [State.writeWord_rotation, hno]
  · rw [planEntryOf, h]; rfl
  · rw [planEntryOf, h]; rfl
  · rw [planEntryOf, h]; rfl

end Sys2Proof.Machine
end

section
/-!
The Give lane, LOCAL_REQUEST and the taking of requests, and the Take lane (chapters 9 and 10): O54 to O56.
-/

namespace Sys2Proof.Machine

open Sys2Proof

/-! ### The Give lane (R160, R161) -/

/-- The frames that stand on the Give lane are all that differs. -/
def State.withStalled (l : List (List Half)) (s : State) : State := { s with port := { s.port with stalled := l } }

theorem State.fillReply_withStalled (e : WorkEntry) (st : Status) (body : List Word) (mark : Option Release) (l : List (List Half)) (s : State) :
    (s.withStalled l).fillReply e st body mark = (s.fillReply e st body mark).withStalled l := by
  cases ho : e.origin with
  | unicast => 
    cases hs : e.source with
    | node id => simp only [State.fillReply, ho, hs]; rfl
    | self => simp only [State.fillReply, ho, hs]
  | self => simp only [State.fillReply, ho]; rfl
  | group => simp only [State.fillReply, ho]

theorem State.take_withStalled (e : WorkEntry) (l : List (List Half)) (s : State) :
    (s.withStalled l).take e = (s.take e).map (State.withStalled l) := by
  have hclass : (s.withStalled l).classify e = s.classify e := rfl
  have hfree : (s.withStalled l).responder = s.responder := rfl
  rw [State.take, State.take, hclass, hfree]
  cases s.classify e with
  | answer => dsimp only; split <;> rfl
  | refuse st => dsimp only; rw [State.fillReply_withStalled]; split <;> rfl
  | enqueue => dsimp only; rw [State.fillReply_withStalled]; repeat' split
               all_goals rfl

theorem State.handSelf_withStalled (e : WorkEntry) (l : List (List Half)) (s : State) :
    (s.withStalled l).handSelf e = (s.handSelf e).withStalled l := by
  rw [State.handSelf, State.handSelf, State.take_withStalled]
  cases s.take e <;> rfl

theorem State.requestOffer_withStalled (f : List Half) (l : List (List Half)) (s : State) :
    (s.withStalled l).requestOffer f = (s.requestOffer f).withStalled l := by
  have htest : (s.withStalled l).requestTest f = s.requestTest f := rfl
  have hself : (s.withStalled l).isSelfDest (giveDest f) = s.isSelfDest (giveDest f) := rfl
  rw [State.requestOffer, State.requestOffer, htest, hself]
  split
  · rfl
  · split
    · exact State.handSelf_withStalled (s.selfEntry f) l (s.giveResult f (s.requestTest f))
    · rfl

theorem State.insertOffer_withStalled (f : List Half) (l : List (List Half)) (s : State) :
    (s.withStalled l).insertOffer f = ((s.insertOffer f).1, (s.insertOffer f).2.withStalled l) := by
  have htest : (s.withStalled l).insertTest f = s.insertTest f := rfl
  rw [State.insertOffer, State.insertOffer, htest]
  split <;> rfl

/-- How a frame is decided does not depend on what stands behind it on the lane. -/
theorem State.decideGive_withStalled (f : List Half) (l : List (List Half)) (s : State) :
    (s.withStalled l).decideGive f = (s.decideGive f).withStalled l := by
  rw [State.decideGive, State.decideGive, State.insertOffer_withStalled, State.requestOffer_withStalled]
  split
  · rfl
  · split
    · rfl
    · split <;> rfl

theorem State.gready_iff {s : State} : s.gready = true ↔ s.resetAsserted = false ∧ s.port.giveResults.length < 4 := by
  rw [State.gready, Bool.and_eq_true, Bool.not_eq_true', decide_eq_true_eq, Config.giveResultLimit]

theorem exec_giveFrame {i : Instr} {f : List Half} (hi : i = .insertRecord f ∨ i = .localRequest f ∨ i = .giveFrameUnknown f) (s : State) :
    exec i s = .next (s.giveFrame f).finish := by
  rcases hi with rfl | rfl | rfl <;> rfl

theorem State.unstall_mem_due_iff {s : State} : Work.unstall ∈ s.due ↔
    s.responder.answering = [] ∧ s.resetAsserted = false ∧ s.port.giveResults.length < 4 ∧ s.port.stalled ≠ [] := by
  have hready : Work.ready .unstall s = true ↔ s.resetAsserted = false ∧ s.port.giveResults.length < 4 ∧ s.port.stalled ≠ [] := by
    rw [Work.ready, Bool.and_eq_true, State.gready_iff, and_assoc]
    simp
  cases ha : s.responder.answering with
  | nil => rw [State.mem_due_iff ha, hready]; simp [State.candidates]
  | cons e rest => simp [State.due, ha]

/-- Settles O55. -/
theorem giveLane : Obligations.GiveLane := by
  refine ⟨fun s => State.unstall_mem_due_iff, fun f rest s u hl hu => ⟨?_, fun hreset hroom i hi => ?_⟩, fun f s => ⟨rfl, ?_, ?_⟩⟩
  · show s.unstall = _
    have hs : ({ s with port := { s.port with stalled := rest } } : State) = u.withStalled rest := by subst hu; rfl
    rw [State.unstall, hl]
    show State.decideGive f { s with port := { s.port with stalled := rest } } = _
    rw [hs, State.decideGive_withStalled]
    rfl
  · subst hu
    rw [exec_giveFrame hi, State.giveFrame_taken (s := { s with port := { s.port with stalled := [] } }) hreset hroom rfl]
  · intro hreset hroom hl
    have hrun : exec (.giveFrameUnknown f) s = .next (s.decideGive f).finish := by
      rw [exec_giveFrame (.inr (.inr rfl)), State.giveFrame_taken hreset hroom hl]
    refine ⟨fun hshort => ?_, fun hwhole h1 h2 => ?_⟩
    · rw [hrun, State.decideGive, if_pos (by simpa [frameShort] using hshort)]
    · rw [hrun, State.decideGive, if_neg (by rw [frameShort, decide_eq_true_eq]; omega), if_neg h1, if_neg h2]
      rfl
  · intro hno i hi
    rw [exec_giveFrame hi, State.giveFrame, if_neg]
    rw [Bool.and_eq_true, State.gready_iff, List.isEmpty_iff]
    rintro ⟨⟨hreset, hroom⟩, hl⟩
    rcases hno with h | h | h
    · omega
    · rw [hreset] at h; cases h
    · exact h hl

/-! ### LOCAL_REQUEST (R165, R166) -/

theorem reqKindOfCode_code (k : ReqKind) : reqKindOfCode (reqKindCode k) = some k := by cases k <;> rfl

theorem reqKindOfCode_none {c : Nat} (h : 5 ≤ c) : reqKindOfCode c = none := by
  obtain ⟨k, rfl⟩ := Nat.exists_eq_add_of_le' h
  rfl

theorem State.isSelfDest_iff {s : State} {d : Nat} : s.isSelfDest d = true ↔ d = 126 ∨ s.tracker.nodeId = some d := by
  simp [State.isSelfDest]

/-- The destination of a LOCAL_REQUEST is one that the trunk or SELF has (R165). -/
def GiveShaped (f : List Half) : Prop := isTrunkDest (giveDest f) = true ∨ giveDest f = 126

/-- The body of a LOCAL_REQUEST is as its header says, and a READ's is one it may have (R165). -/
def GiveFits (f : List Half) (k : ReqKind) : Prop :=
  giveBodyLength f ≤ 10 ∧ giveBodyLength f = (frameBody f).length ∧ f.length % 2 = 0 ∧
    (k = .read → (frameBody f).length = 1 ∧ 1 ≤ reqCount (frameBody f) ∧ reqCount (frameBody f) ≤ 8)

theorem State.requestTest_unassigned {s : State} {f : List Half} (h : 5 ≤ giveReqKind f) : s.requestTest f = .badRequest := by
  rw [State.requestTest, reqKindOfCode_none h]

theorem giveShaped_iff {f : List Half} : (isTrunkDest (giveDest f) || giveDest f == 126) = true ↔ GiveShaped f := by
  simp [GiveShaped]

theorem giveFits_iff {f : List Half} {k : ReqKind} : GiveFits f k ↔
    ¬(10 < giveBodyLength f || giveBodyLength f != (frameBody f).length || frameOdd f) = true ∧
      ¬(k = .read && !((frameBody f).length == 1 && 1 ≤ reqCount (frameBody f) && reqCount (frameBody f) ≤ 8)) = true := by
  simp only [GiveFits, frameOdd, Bool.or_eq_true, Bool.and_eq_true, decide_eq_true_eq, bne_iff_ne, beq_iff_eq, Bool.not_eq_true',
    Bool.and_eq_false_iff, beq_eq_false_iff_ne, decide_eq_false_iff_not]
  constructor
  · rintro ⟨h10, hlen, hodd, hread⟩
    refine ⟨by omega, fun ⟨hk, hno⟩ => ?_⟩
    have := hread hk
    omega
  · rintro ⟨h, hread⟩
    refine ⟨by omega, by omega, by omega, fun hk => ?_⟩
    have : ¬(((frameBody f).length ≠ 1 ∨ ¬1 ≤ reqCount (frameBody f)) ∨ ¬reqCount (frameBody f) ≤ 8) := fun hno => hread ⟨hk, hno⟩
    omega

theorem State.requestTest_misshapen {s : State} {f : List Half} {k : ReqKind} (hk : reqKindCode k = giveReqKind f)
    (h : ¬(GiveShaped f ∧ GiveFits f k)) : s.requestTest f = .badRequest := by
  rw [giveFits_iff, ← giveShaped_iff] at h
  rw [State.requestTest, ← hk, reqKindOfCode_code]
  dsimp only
  split_ifs with h1 h2 h3
  · rfl
  · rfl
  · rfl
  all_goals exact absurd ⟨by rwa [Bool.not_eq_true', Bool.not_eq_false] at h1, h2, h3⟩ h

/-- The tests that are left for a frame of good shape (R165). -/
theorem State.requestTest_shaped {s : State} {f : List Half} {k : ReqKind} (hk : reqKindCode k = giveReqKind f) (hs : GiveShaped f)
    (hf : GiveFits f k) :
    s.requestTest f =
      if !(s.isSelfDest (giveDest f) || s.inRound) then .ringDown
      else if s.freeCompletions = 0 then .tableFull
      else if !s.isSelfDest (giveDest f) && Config.tableLimit ≤ s.originator.length then .tableFull
      else .ok := by
  obtain ⟨h2, h3⟩ := giveFits_iff.mp hf
  rw [State.requestTest, ← hk, reqKindOfCode_code]
  dsimp only
  rw [giveShaped_iff.mpr hs, if_neg (by decide), if_neg h2, if_neg h3]

theorem State.requestOffer_refused {s : State} {f : List Half} {st : Status} (h : s.requestTest f = st) (hst : st ≠ .ok) :
    s.requestOffer f = s.giveResult f st := by
  rw [State.requestOffer, h]
  exact if_pos hst

theorem State.requestOffer_self {s : State} {f : List Half} (h : s.requestTest f = .ok) (hself : s.isSelfDest (giveDest f) = true) :
    s.requestOffer f = (s.giveResult f .ok).handSelf (s.selfEntry f) := by
  rw [State.requestOffer, h, hself]
  rfl

theorem State.requestOffer_ring {s : State} {f : List Half} (h : s.requestTest f = .ok) (hself : s.isSelfDest (giveDest f) = false) :
    s.requestOffer f = { s.giveResult f .ok with originator := s.originator ++ [s.ringEntry f] } := by
  rw [State.requestOffer, h, hself]
  rfl

/-- The ring tag of a new entry is the lowest that no entry holds (R165). -/
theorem lowestFreeTag_lowest {table : List OrigEntry} (h : table.length < 32) :
    (∀ e ∈ table, e.tag ≠ lowestFreeTag table) ∧ ∀ x : Nat, x < lowestFreeTag table → ∃ e ∈ table, e.tag = x := by
  refine ⟨fun e he heq => lowestFreeTag_not_mem h (heq ▸ List.mem_map_of_mem he), fun x hx => ?_⟩
  cases hf : (List.range 32).find? fun t => table.all fun e => e.tag != t with
  | none => rw [lowestFreeTag, hf] at hx; exact absurd hx (Nat.not_lt_zero x)
  | some t =>
    rw [lowestFreeTag, hf, Option.getD_some] at hx
    have hbelow := (List.find?_range_eq_some.mp hf).2.2 x hx
    simpa using hbelow

/-! ### The taking of a request (R141, R143, R144, R151) -/

theorem State.claimPasses_iff {s : State} {src : Source} : s.claimPasses src = true ↔
    s.responder.claim.holder = none ∨ ∃ h : Nat, s.responder.claim.holder = some h ∧ src = .node h := by
  rw [State.claimPasses]
  cases s.responder.claim.holder <;> simp

/-- The body lengths that fit a kind (R141). -/
theorem bodyFits_iff {k : ReqKind} {body : List Word} : bodyFits k body = true ↔
    match k with
    | .read => body.length = 1
    | .swap => body.length = 3
    | .command => body.length = 1
    | _ => 1 ≤ body.length ∧ body.length ≤ 10 := by
  cases k <;> simp [bodyFits]

theorem State.classify_fitting {e : WorkEntry} (h : bodyFits e.kind e.body = true) (s : State) :
    s.classify e =
      match e.kind with
      | .read => .answer
      | .swap => .answer
      | .command =>
        if isClaimCommand (reqCommand e.body) then .answer
        else if reqCommand e.body = 0 || 15 < reqCommand e.body then .refuse .badRequest
        else if s.claimPasses e.source then .enqueue else .refuse .notOwner
      | _ => if s.claimPasses e.source then .enqueue else .refuse .notOwner := by
  rw [State.classify, h]
  rfl

theorem isClaimCommand_iff {code : Nat} : isClaimCommand code = true ↔ 1 ≤ code ∧ code ≤ 3 := by
  simp only [isClaimCommand, Bool.or_eq_true, beq_iff_eq]
  omega

/-- A write or a command other than the claim's is enqueued where the claim lets its source (R151). -/
theorem State.classify_claimed {e : WorkEntry} (h : bodyFits e.kind e.body = true)
    (hk : e.kind = .writePosted ∨ e.kind = .writeConfirmed ∨ e.kind = .command ∧ 4 ≤ reqCommand e.body ∧ reqCommand e.body ≤ 15) (s : State) :
    s.classify e = if s.claimPasses e.source then .enqueue else .refuse .notOwner := by
  rw [State.classify_fitting h]
  rcases hk with hk | hk | ⟨hk, h4, h15⟩
  · rw [hk]
  · rw [hk]
  · rw [hk]
    dsimp only
    rw [if_neg (mt isClaimCommand_iff.mp (by omega)), if_neg (by simp; omega)]

theorem State.freeReplies_pos {s : State} : 0 < s.responder.freeReplies ↔
    s.responder.replies.length + (s.responder.work.filter WorkEntry.place).length +
      (s.responder.answering.filter WorkEntry.place).length < 3 := by
  rw [Responder.freeReplies, Responder.reserved, Config.replyPlaces]
  show 0 < 3 - (s.responder.replies.length + ((s.responder.work.filter WorkEntry.place).length +
    (s.responder.answering.filter WorkEntry.place).length)) ↔ _
  omega

theorem State.fillReply_frame (e : WorkEntry) (st : Status) (body : List Word) (mark : Option Release) (s : State) :
    (s.fillReply e st body mark).responder.work = s.responder.work ∧
      (s.fillReply e st body mark).responder.applyDue = s.responder.applyDue := by
  rw [State.fillReply]
  cases e.origin <;> cases e.source <;> exact ⟨rfl, rfl⟩

/-- A request that joins the work queue behind a place that has been filled for it. -/
theorem State.enqueue_eq {s t : State} (hw : t.responder.work = s.responder.work) (ha : t.responder.applyDue = s.responder.applyDue)
    (hr : t.inRound = s.inRound) (x : WorkEntry) :
    t.enqueue x =
      { t with responder := { t.responder with
          work := s.responder.work ++ [x]
          applyDue := if s.tracker.tracking = .inRound then s.responder.applyDue else s.responder.work.length + 1 } } := by
  rw [State.enqueue, hw, ha, hr]
  by_cases hk : s.tracker.tracking = .inRound
  · rw [State.inRound_of hk, if_pos hk]; rfl
  · rw [State.not_inRound_of hk, if_neg hk]; rfl

theorem State.take_enqueued {s : State} {e : WorkEntry} (hc : s.classify e = .enqueue) :
    s.take e =
      if (0 < s.responder.freeReplies && s.responder.work.length < Config.workLimit) then
        if e.kind = .writePosted then some ((s.fillReply e .writeAccepted [] none).enqueue { e with place := false })
        else some (s.enqueue { e with place := true })
      else none := by
  rw [State.take, hc]

/-- Settles O54. -/
theorem localRequestDecided : Obligations.LocalRequestDecided := by
  refine ⟨fun f s hreset hroom hl hlen hkind => ?_, fun e s => ⟨fun t ht => ?_, fun hno => ?_, rfl⟩, fun e s => ?_, fun e s => ?_⟩
  · intro answered body self
    have hrun : exec (.localRequest f) s = .next (s.requestOffer f).finish := by
      rw [exec_giveFrame (.inr (.inl rfl)), State.giveFrame_taken hreset hroom hl, State.decideGive,
        if_neg (by rw [frameShort, decide_eq_true_eq]; omega), if_neg (by omega), if_pos hkind]
    have hgiven (st : Status) : s.giveResult f st = answered st := by rw [State.giveResult, hkind]
    have hself : s.isSelfDest (giveDest f) = true ↔ self := State.isSelfDest_iff
    have hrefused {st : Status} (h : s.requestTest f = st) (hst : st ≠ .ok) : exec (.localRequest f) s = .next (answered st).finish := by
      rw [hrun, State.requestOffer_refused h hst, hgiven]
    refine ⟨fun h => hrefused (State.requestTest_unassigned h) (by decide), fun k hk => ?_⟩
    intro shaped fits
    refine ⟨fun h => hrefused (State.requestTest_misshapen hk h) (by decide), fun hs hf => ?_⟩
    have htest := State.requestTest_shaped (s := s) hk hs hf
    refine ⟨fun hns hr => hrefused (htest.trans (if_pos ?_)) (by decide), fun hok => ?_⟩
    · simp [Bool.eq_false_iff.mpr (mt hself.mp hns), State.not_inRound_of hr]
    · have hring : ¬(!(s.isSelfDest (giveDest f) || s.inRound)) = true := by
        rcases hok with h | h
        · simp [hself.mpr h]
        · simp [State.inRound_of h]
      rw [if_neg hring] at htest
      refine ⟨fun hfull => hrefused (htest.trans ?_) (by decide), fun hfree => ⟨fun hsf => ?_, fun hns hlt => ?_⟩⟩
      · by_cases hfree : s.freeCompletions = 0
        · rw [if_pos hfree]
        · obtain ⟨hns, hlen⟩ := hfull.resolve_left hfree
          rw [if_neg hfree, if_pos (by simp [Bool.eq_false_iff.mpr (mt hself.mp hns), Config.tableLimit, hlen])]
      · rw [if_neg hfree, if_neg (by simp [hself.mpr hsf])] at htest
        rw [hrun, State.requestOffer_self htest (hself.mpr hsf), hgiven, State.selfEntry, ← hk, reqKindOfCode_code]
        rfl
      · have hsf : s.isSelfDest (giveDest f) = false := Bool.eq_false_iff.mpr (mt hself.mp hns)
        rw [if_neg hfree, if_neg (by rw [hsf, Bool.not_false, Bool.true_and, decide_eq_true_eq, Config.tableLimit]; omega)] at htest
        obtain ⟨hfreeTag, hlowest⟩ := lowestFreeTag_lowest (table := s.originator) (by omega)
        refine ⟨_, hfreeTag, hlowest, ?_⟩
        rw [hrun, State.requestOffer_ring htest hsf, hgiven, State.ringEntry, ← hk, reqKindOfCode_code]
        rfl
  · rw [State.handSelf, ht]
  · rw [State.handSelf, hno]; rfl
  · intro code owner fits
    have hfits : bodyFits e.kind e.body = true ↔ fits := bodyFits_iff
    have howner : s.claimPasses e.source = true ↔ owner := State.claimPasses_iff
    refine ⟨fun h => ?_, fun h => ⟨fun hk => ?_, fun hk hcode => ?_, fun hk => ⟨fun ho => ?_, fun ho => ?_⟩⟩⟩
    · rw [State.classify, if_pos (by simp [Bool.eq_false_iff.mpr (mt hfits.mp h)])]
    · rw [State.classify_fitting (hfits.mpr h)]
      rcases hk with hk | hk | ⟨hk, hcode⟩
      · rw [hk]
      · rw [hk]
      · rw [hk]
        exact if_pos (isClaimCommand_iff.mpr hcode)
    · have hcode' : reqCommand e.body = 0 ∨ 15 < reqCommand e.body := hcode
      rw [State.classify_fitting (hfits.mpr h), hk]
      dsimp only
      rw [if_neg (mt isClaimCommand_iff.mp (by omega)), if_pos (by rw [Bool.or_eq_true, decide_eq_true_eq, decide_eq_true_eq]; exact hcode')]
    · rw [State.classify_claimed (hfits.mpr h) hk, if_pos (howner.mpr ho)]
    · rw [State.classify_claimed (hfits.mpr h) hk, if_neg (mt howner.mp ho)]
  · intro room queued
    have hroom : 0 < s.responder.freeReplies ↔ room := State.freeReplies_pos
    refine ⟨fun h => ?_, fun h => ⟨fun hc => ?_, fun st hc => ?_, fun hc => ⟨fun hfull => ?_, fun hlt => ⟨fun hk => ?_, fun hk => ?_⟩⟩⟩⟩
    · have hno : ¬ 0 < s.responder.freeReplies := mt hroom.mp h
      cases hc : s.classify e with
      | answer => rw [State.take, hc]; exact if_neg hno
      | refuse st => rw [State.take, hc]; exact if_neg hno
      | enqueue => rw [State.take_enqueued hc, if_neg (by simp [hno])]
    · rw [State.take, hc]; exact if_pos (hroom.mpr h)
    · rw [State.take, hc]; exact if_pos (hroom.mpr h)
    · rw [State.take_enqueued hc, if_neg (by rw [Bool.and_eq_true, decide_eq_true_eq, decide_eq_true_eq, Config.workLimit]; omega)]
    · obtain ⟨hw, ha⟩ := State.fillReply_frame e .writeAccepted [] none s
      rw [State.take_enqueued hc, if_pos (by simp [Config.workLimit, hlt, hroom.mpr h]), if_pos hk, State.enqueue_eq hw ha (by simp)]
    · rw [State.take_enqueued hc, if_pos (by simp [Config.workLimit, hlt, hroom.mpr h]), if_neg hk, State.enqueue_eq (s := s) rfl rfl rfl]

/-! ### The Take lane (R108, R159, R162, R163, R177) -/

theorem laneHalves_length (ws : List Word) : (laneHalves ws).length = 2 * ws.length := by
  induction ws with
  | nil => rfl
  | cons w ws ih =>
    show (laneHalves ws).length + 1 + 1 = 2 * (ws.length + 1)
    omega

theorem laneTransfers_length (ws : List Word) : (laneTransfers ws).length = 2 * ws.length := by
  rw [laneTransfers, List.length_map, List.length_zipIdx, laneHalves_length]

/-- Each word is two halves, bits 31:16 first (R182). -/
theorem laneHalves_getElem? {ws : List Word} {k : Nat} {w : Word} (h : ws[k]? = some w) :
    (laneHalves ws)[2 * k]? = some ((w >>> 16).setWidth 16) ∧ (laneHalves ws)[2 * k + 1]? = some (w.setWidth 16) := by
  induction ws generalizing k with
  | nil => simp at h
  | cons x ws ih =>
    cases k with
    | zero =>
      cases h
      exact ⟨rfl, rfl⟩
    | succ k => exact ih (k := k) h

theorem laneTransfers_getElem? {ws : List Word} {i : Nat} {h : Half} (hi : (laneHalves ws)[i]? = some h) :
    (laneTransfers ws)[i]? = some { data := h, first := i == 0, last := i + 1 == 2 * ws.length } := by
  rw [laneTransfers, List.getElem?_map, List.getElem?_zipIdx, hi, laneHalves_length]
  simp

/-- The transfers of a word (R159, R182). -/
theorem laneTransfers_word {ws : List Word} {k : Nat} {w : Word} (h : ws[k]? = some w) :
    (laneTransfers ws)[2 * k]? = some { data := (w >>> 16).setWidth 16, first := k == 0, last := false } ∧
      (laneTransfers ws)[2 * k + 1]? = some { data := w.setWidth 16, first := false, last := k + 1 == ws.length } := by
  obtain ⟨hhigh, hlow⟩ := laneHalves_getElem? h
  have hk : k < ws.length := (List.getElem?_eq_some_iff.mp h).1
  have hfirst : (2 * k == 0) = (k == 0) := by rw [Bool.eq_iff_iff, beq_iff_eq, beq_iff_eq]; omega
  have hmid : (2 * k + 1 == 2 * ws.length) = false := beq_eq_false_iff_ne.mpr (by omega)
  have hlast : (2 * k + 1 + 1 == 2 * ws.length) = (k + 1 == ws.length) := by rw [Bool.eq_iff_iff, beq_iff_eq, beq_iff_eq]; omega
  rw [laneTransfers_getElem? hhigh, laneTransfers_getElem? hlow, hfirst, hmid, hlast]
  exact ⟨rfl, rfl⟩

theorem DropQueue.waits_iff {q : DropQueue} : q.waits = true ↔ (if q.inTransfer = true then 1 else 0) < q.records.length := by
  rw [DropQueue.waits, decide_eq_true_eq]

/-- A frame is presented exactly where one of the five waits (R162, R163). -/
theorem State.takeChoice_ne_none {s : State} : s.takeChoice ≠ none ↔
    s.port.giveResults ≠ [] ∨ s.port.completions ≠ [] ∨ s.ownNoticeWaits = true ∨ s.port.notice ≠ none ∨ s.drop.waits = true := by
  rw [State.takeChoice]
  split_ifs with h1 h2 h3 h4 h5 <;> simp_all [Option.isSome_iff_ne_none]

theorem State.ownNoticeWaits_iff {s : State} : s.ownNoticeWaits = true ↔
    s.events.notice = .due ∧ (s.config.target = .local ∨ ∃ id : Nat, s.config.target = .node id ∧ s.tracker.nodeId = some id) := by
  rw [State.ownNoticeWaits, Bool.and_eq_true, beq_iff_eq]
  cases s.config.target <;> simp

/-- With no frame in transfer the presented frame begins (R163). -/
theorem exec_takeFrameStart {s : State} {k : TakeKind} (hreset : s.resetAsserted = false) (ht : s.port.transfer = none)
    (hc : s.takeChoice = some k) : exec .takeFrameStart s = .next (s.beginTake k).finish := by
  show Host.Outcome.next s.takeStart.finish = _
  rw [State.takeStart, hreset, ht, hc]
  rfl

/-- The end of the frame in transfer (R108, R163). -/
theorem exec_takeFrameEnd {s : State} {f : TakeFrame} (hreset : s.resetAsserted = false) (ht : s.port.transfer = some f) :
    exec .takeFrameEnd s = .next (State.finish
      (let t := { s with port := { s.port with transfer := none, lane := s.port.lane ++ (laneTransfers f.words).drop f.place } }
       if f.kind = .dropRecord then
         ({ t with drop := { records := s.drop.records.drop 1, inTransfer := false } }).count .dropRecordsTaken
       else t)) := by
  show Host.Outcome.next s.takeEnd.finish = _
  rw [State.takeEnd, hreset, ht]
  rfl

/-- With nothing to present, or a frame in transfer, TAKE_FRAME_START does nothing (R163). -/
theorem exec_takeFrameStart_none {s : State} (h : s.port.transfer ≠ none ∨ s.takeChoice = none) :
    exec .takeFrameStart s = .next s.finish := by
  show Host.Outcome.next s.takeStart.finish = _
  rw [State.takeStart]
  split_ifs with hb
  · rfl
  · rw [h.resolve_left (by simp_all)]

/-- Settles O56. -/
theorem takeLane : Obligations.TakeLane := by
  refine ⟨fun s hreset => ?_, fun ws => ⟨laneTransfers_length ws, fun k w h => laneTransfers_word h⟩,
    fun s => ⟨?_, State.ownNoticeWaits_iff⟩, fun s => ⟨?_, ?_, State.gready_iff, fun hreset => ⟨fun f hf => ?_, fun k ht hc => ?_⟩⟩⟩
  · intro began
    refine ⟨fun ht => ⟨fun g rest hg => ?_, fun hg => ⟨fun c rest hc => ?_, fun hc => ⟨fun hown => ?_, fun hown =>
      ⟨fun n hn => ?_, fun hn => ⟨fun r rest hr htr => ?_, fun hr => ?_⟩⟩⟩⟩⟩,
      fun f hf => ⟨exec_takeFrameStart_none (.inl (by simp [hf])), fun hk => ?_, fun hk => ?_⟩⟩
    · rw [exec_takeFrameStart hreset ht (k := .giveResult) (by rw [State.takeChoice, hg]; rfl), State.beginTake, State.takeLeaves,
        State.takeWords, hg]
      rfl
    · rw [exec_takeFrameStart hreset ht (k := .completion) (by rw [State.takeChoice, hg, hc]; rfl), State.beginTake, State.takeLeaves,
        State.takeWords, hc]
      rfl
    · rw [exec_takeFrameStart hreset ht (k := .ownNotice) (by rw [State.takeChoice, hg, hc, hown]; rfl)]
      rfl
    · rw [exec_takeFrameStart hreset ht (k := .receivedNotice) (by rw [State.takeChoice, hg, hc, hown, hn]; rfl), State.beginTake,
        State.takeLeaves, State.takeWords, hn]
      rfl
    · have hw : s.drop.waits = true := DropQueue.waits_iff.mpr (by simp [hr, htr])
      rw [exec_takeFrameStart hreset ht (k := .dropRecord) (by rw [State.takeChoice, hg, hc, hown, hn, hw]; rfl), State.beginTake,
        State.takeLeaves, State.takeWords, hr]
      rfl
    · have hw : s.drop.waits = false := Bool.eq_false_iff.mpr (mt DropQueue.waits_iff.mp (by simp [hr]))
      exact exec_takeFrameStart_none (.inr (by rw [State.takeChoice, hg, hc, hown, hn, hw]; rfl))
    · rw [exec_takeFrameEnd hreset hf]
      dsimp only
      rw [if_neg hk]
    · rw [exec_takeFrameEnd hreset hf]
      dsimp only
      rw [if_pos hk]
      rfl
  · rw [State.takeChoice_ne_none, DropQueue.waits_iff]
  · simp [State.kvalid, Option.isSome_iff_ne_none]
  · simp [State.attn, Option.isSome_iff_ne_none]
  · rw [State.laneDriven, hreset, hf]
    rfl
  · rw [State.laneDriven, hreset, ht, hc]
    rfl

end Sys2Proof.Machine
end

section
/-!
Messages in the open region (chapter 8): O27 and O29.
-/

namespace Sys2Proof.Machine

open Sys2Proof

/-! ### What is sent (R130 to R132) -/

theorem State.sendMessage_eq (m : RxMessage) (s : State) : s.sendMessage m = s.messageSent m :=
  State.emit_lineWith (.message m) _

theorem forwardedMessage_length (m : RxMessage) (claim : Bool) : (forwardedMessage m claim).body.length = m.body.length := by
  simp [forwardedMessage, sealMessage, msgBody]

theorem State.forward_stale {m : RxMessage} (h : msgHops m ≤ 1) (claim : Bool) (s : State) :
    s.forward m claim = { s with counters := (s.count .msgStale).counters } := by
  rw [State.forward, if_pos h]
  rfl

theorem State.forward_sent {m : RxMessage} (h : 1 < msgHops m) (claim : Bool) (s : State) :
    s.forward m claim = s.messageSent (forwardedMessage m claim) := by
  rw [State.forward, if_neg (by omega), State.sendMessage_eq]

/-! ### The rows of R122 -/

theorem State.handleMessage_damaged {m : RxMessage} (hg : msgGood m = false) (s : State) :
    s.handleMessage m = { s with counters := (s.count .msgCheckFail).counters, events := s.events.raise s.config .inputCheckFail } := by
  rw [State.handleMessage, hg]
  rfl

theorem State.handleMessage_malformed {m : RxMessage} (hg : msgGood m = true) (hm : msgMalformed m = true) (s : State) :
    s.handleMessage m = { s with counters := (s.count .msgMalformed).counters } := by
  rw [State.handleMessage, hg, hm]
  rfl

section
variable {m : RxMessage} {s : State} (hg : msgGood m = true) (hm : msgMalformed m = false)
include hg hm

theorem State.handleMessage_returned (hs : s.tracker.nodeId = some (msgSource m)) : s.handleMessage m = s.returned m := by
  rw [State.handleMessage, hg, hm]
  exact if_pos hs

theorem State.handleMessage_delivered (hs : s.tracker.nodeId ≠ some (msgSource m)) (hd : s.tracker.nodeId = some (msgDest m)) :
    s.handleMessage m = s.delivered m := by
  rw [State.handleMessage, hg, hm]
  exact (if_neg hs).trans (if_pos hd)

theorem State.handleMessage_group (hs : s.tracker.nodeId ≠ some (msgSource m)) (hd : s.tracker.nodeId ≠ some (msgDest m))
    (ha : s.addressedAsMember (msgDest m) = true) : s.handleMessage m = s.groupMessage m := by
  rw [State.handleMessage, hg, hm]
  exact (if_neg hs).trans ((if_neg hd).trans (if_pos ha))

theorem State.handleMessage_passed (hs : s.tracker.nodeId ≠ some (msgSource m)) (hd : s.tracker.nodeId ≠ some (msgDest m))
    (ha : s.addressedAsMember (msgDest m) = false) : s.handleMessage m = s.forward m false := by
  rw [State.handleMessage, hg, hm]
  exact (if_neg hs).trans ((if_neg hd).trans (if_neg (Bool.eq_false_iff.mp ha)))

end

/-! ### A message at a member (R3, R8) -/

theorem State.IsMemberInRound.exec_message {s : State} (h : s.IsMemberInRound) {i : Instr} {m : RxMessage}
    (hi : i = .messageArrival m ∨ i = .returningMessageArrival m) : exec i s = .next (s.memberMessage m).finish := by
  obtain ⟨hreset, hr, hrole⟩ := h
  have harrive : s.messageArrives m = s.memberMessage m := by
    rw [State.messageArrives, State.inRound_of hr, State.not_isMaster_of hrole]; rfl
  rcases hi with rfl | rfl
  · refine (next_released hreset (fun s => if s.inRound && s.isMaster then s.carryMessage else s.messageArrives m)).trans (next_congr ?_)
    rw [State.inRound_of hr, State.not_isMaster_of hrole]
    exact harrive
  · exact (next_released hreset _).trans (next_congr harrive)

theorem State.frameMessage_whole {m : RxMessage} {s : State} (hlen : m.body.length = msgBodyLength m) (h10 : m.body.length ≤ 10)
    (hcap : s.rx.words + (3 + m.body.length) ≤ s.tracker.params.openCapacity) : s.frameMessage m = .whole := by
  rw [State.frameMessage, if_neg (by omega), if_neg (by omega), if_neg (by rw [msgLength]; omega)]

/-- Settles O27. -/
theorem messageForwarded : Obligations.MessageForwarded := by
  refine ⟨fun i m s hi hs hphase hlen h10 hcap => ?_, fun m claim s => ?_⟩
  · intro received
    have hrun : exec i s = .next (received.handleMessage m).finish := by
      rw [hs.exec_message hi, State.memberMessage, hphase]
      dsimp only
      rw [State.frameMessage_whole hlen h10 hcap]
      rfl
    refine ⟨hrun, fun hg hm hsrc hdst ha => ?_⟩
    have hpass : received.handleMessage m = received.forward m false :=
      State.handleMessage_passed (s := received) hg hm hsrc hdst ha
    rw [hrun, hpass]
    refine ⟨fun hb => ?_, fun hb => ?_⟩
    · rw [State.forward_sent hb, State.messageSent, forwardedMessage_length]
      rfl
    · rw [State.forward_stale hb]
      rfl
  · split_ifs with h
    · exact State.forward_stale h claim s
    · exact State.forward_sent (by omega) claim s

/-! ### The node's own messages that have returned (R124, R169) -/

/-- The SENT entry that a returned request matches (R169). -/
def OrigEntry.Returned (k : ReqKind) (m : RxMessage) (e : OrigEntry) : Prop :=
  e.sent = true ∧ e.tag = msgTag m ∧ e.dest = msgDest m ∧ e.kind = k

theorem OrigEntry.returned_iff {k : ReqKind} {m : RxMessage} {e : OrigEntry} :
    (e.sent && e.tag == msgTag m && e.dest == msgDest m && e.kind == k) = true ↔ e.Returned k m := by
  simp [OrigEntry.Returned, and_assoc]

theorem State.requestReturns_unmatched {k : ReqKind} {m : RxMessage} {s : State} (h : ¬∃ e ∈ s.originator, e.Returned k m) :
    s.requestReturns k m = s := by
  have hfind : (s.originator.find? fun e => e.sent && e.tag == msgTag m && e.dest == msgDest m && e.kind == k) = none :=
    List.find?_eq_none.mpr fun e he hp => h ⟨e, he, OrigEntry.returned_iff.mp hp⟩
  rw [State.requestReturns, hfind]

theorem State.requestReturns_matched {k : ReqKind} {m : RxMessage} {s : State} {e : OrigEntry} (he : e ∈ s.originator)
    (hnd : (s.originator.map OrigEntry.tag).Nodup) (h : e.Returned k m) :
    s.requestReturns k m =
      if msgDest m ≤ 59 then s.completeEntry e (statusByte .noNode) []
      else if k = .read || k = .swap then (if msgClaimed m then s else s.completeEntry e (statusByte .noMember) [])
      else s.completeEntry e (statusByte .ok) [] := by
  have hfind : (s.originator.find? fun e => e.sent && e.tag == msgTag m && e.dest == msgDest m && e.kind == k) = some e :=
    find?_of_tag hnd he (OrigEntry.returned_iff.mpr h) fun x hx => by
      obtain ⟨_, htag, _⟩ := OrigEntry.returned_iff.mp hx
      exact htag.trans h.2.1.symm
  rw [State.requestReturns, hfind]

theorem State.returned_request {k : ReqKind} {m : RxMessage} (hk : reqKindOfCode (msgKind m) = some k) (s : State) :
    s.returned m = s.requestReturns k m := by
  rw [State.returned, hk]

/-! ### To the node's own ID (R125 to R127, R168) -/

theorem State.delivered_request {k : ReqKind} {m : RxMessage} (hk : reqKindOfCode (msgKind m) = some k) (s : State) :
    s.delivered m = s.requestDelivered k m := by
  rw [State.delivered, hk]

theorem State.delivered_reply {m : RxMessage} (hk : msgKind m = 5) (s : State) : s.delivered m = s.replyArrives m := by
  rw [State.delivered, hk]
  rfl

theorem State.delivered_notice {m : RxMessage} (hk : msgKind m = 6) (s : State) : s.delivered m = s.noticeDelivered m := by
  rw [State.delivered, hk]
  rfl

/-- The REPLY that a bounce puts in the request's place comes from the node addressed (R126). -/
theorem State.bounceReply_eq {m : RxMessage} {s : State} (hd : s.tracker.nodeId = some (msgDest m)) :
    s.bounceReply m = buildMessage 5 (msgSource m) (msgDest m) (msgTag m) (s.tracker.params.nodeCount + 1) true 2 [] := by
  rw [State.bounceReply, State.ownId, hd]
  rfl

/-- The SENT entry that a REPLY completes (R168). -/
def OrigEntry.Answered (m : RxMessage) (e : OrigEntry) : Prop :=
  e.sent = true ∧ e.tag = msgTag m ∧ (e.dest ≤ 59 ∧ e.dest = msgSource m ∨ 59 < e.dest ∧ (e.kind = .read ∨ e.kind = .swap))

theorem OrigEntry.answered_iff {m : RxMessage} {e : OrigEntry} : e.matchesReply (msgSource m) (msgTag m) = true ↔ e.Answered m := by
  rw [OrigEntry.matchesReply, OrigEntry.Answered, Bool.and_eq_true, Bool.and_eq_true, beq_iff_eq, and_assoc]
  by_cases hd : e.dest ≤ 59
  · simp [hd, Nat.not_lt.mpr hd]
  · simp [hd, Nat.lt_of_not_le hd]

theorem State.replyArrives_unmatched {m : RxMessage} {s : State} (h : ¬∃ e ∈ s.originator, e.Answered m) :
    s.replyArrives m = { s with counters := (s.count .lateReply).counters } := by
  have hfind : s.originator.find? (OrigEntry.matchesReply (msgSource m) (msgTag m)) = none :=
    List.find?_eq_none.mpr fun e he hp => h ⟨e, he, OrigEntry.answered_iff.mp hp⟩
  rw [State.replyArrives, hfind]
  rfl

theorem State.replyArrives_matched {m : RxMessage} {s : State} {e : OrigEntry} (he : e ∈ s.originator)
    (hnd : (s.originator.map OrigEntry.tag).Nodup) (h : e.Answered m) :
    s.replyArrives m =
      s.completeEntry e (if msgBounced m then 2 else msgStatus m) (if msgBounced m then [] else (msgBody m).take 8) := by
  have hfind : s.originator.find? (OrigEntry.matchesReply (msgSource m) (msgTag m)) = some e :=
    find?_of_tag hnd he (OrigEntry.answered_iff.mpr h) fun x hx => by
      obtain ⟨_, htag, _⟩ := OrigEntry.answered_iff.mp hx
      exact htag.trans h.2.1.symm
  rw [State.replyArrives, hfind]
  cases msgBounced m <;> rfl

theorem State.noticeDelivered_eq {m : RxMessage} {w0 w1 : RxWord} (h : m.body = [w0, w1]) (s : State) :
    s.noticeDelivered m =
      { s with
        counters := (if s.port.notice = none then s else s.count .noticesReplaced).counters
        port := { s.port with
          notice := some { source := msgSource m, pending := w0.value.setWidth 16, round := w1.value.setWidth 16 } } } := by
  rw [State.noticeDelivered, msgBody, h]
  cases s.port.notice <;> rfl

/-! ### To a group of the node's, or to all (R128, R129, R147) -/

theorem State.addressedAsMember_iff {d : Nat} {s : State} : s.addressedAsMember d = true ↔
    d = 127 ∨ (64 ≤ d ∧ d ≤ 79 ∧ s.config.groups.getLsbD (d - 64) = true) := by
  simp [State.addressedAsMember, isGroupDest, and_assoc]

theorem State.answerAll_nil {s : State} (h : s.responder.answering = []) : s.answerAll = s := by
  rw [State.answerAll, h]
  rfl

theorem State.recordFailure_answering (e : WorkEntry) (index : Nat) (st : Status) (s : State) :
    (s.recordFailure e index st).responder.answering = s.responder.answering := by
  rw [State.recordFailure]
  cases s.responder.capture <;> rfl

theorem State.groupMessage_readSwap {k : ReqKind} {m : RxMessage} (hk : reqKindOfCode (msgKind m) = some k)
    (h : k = .read ∨ k = .swap) (s : State) :
    s.groupMessage m = (s.groupReadSwap k m).2.answerAll.forward m (s.groupReadSwap k m).1 := by
  rw [State.groupMessage, hk]
  rcases h with rfl | rfl <;> rfl

theorem State.groupMessage_writeCommand {k : ReqKind} {m : RxMessage} (hk : reqKindOfCode (msgKind m) = some k)
    (hr : k ≠ .read) (hs : k ≠ .swap) (s : State) :
    s.groupMessage m = (s.takeGroup (requestEntry k .group m)).answerAll.forward m false := by
  rw [State.groupMessage, hk]
  cases k with
  | read => exact absurd rfl hr
  | swap => exact absurd rfl hs
  | writePosted => rfl
  | writeConfirmed => rfl
  | command => rfl

/-- A READ or SWAP that is not for this node to answer: claimed already, or a SWAP at a node that is no holder (R128). -/
theorem State.groupReadSwap_passed {k : ReqKind} {m : RxMessage} {s : State}
    (h : msgClaimed m = true ∨ k = .swap ∧ s.responder.holder = false) : s.groupReadSwap k m = (false, s) := by
  rw [State.groupReadSwap]
  rcases h with h | ⟨hk, hh⟩
  · exact if_pos h
  · rw [hk, hh]
    exact ite_self _

theorem State.groupReadSwap_own {k : ReqKind} {m : RxMessage} {s : State} (hc : msgClaimed m = false)
    (hh : k = .swap → s.responder.holder = true) :
    s.groupReadSwap k m =
      match s.take (requestEntry k .unicast m) with
      | some t => (true, t)
      | none => (false, s.count .groupReadPassed) := by
  have hno : ¬(decide (k = .swap) && !s.responder.holder) = true := by
    rw [Bool.and_eq_true, decide_eq_true_eq, Bool.not_eq_true']
    rintro ⟨hk, hfree⟩
    rw [hh hk] at hfree
    cases hfree
  rw [State.groupReadSwap, hc, if_neg Bool.false_ne_true, if_neg hno] <;> rfl

/-- A request that is enqueued has a body (R141). -/
theorem State.body_of_enqueue {e : WorkEntry} {s : State} (h : s.classify e = .enqueue) (hr : e.kind ≠ .read) (hs : e.kind ≠ .swap) :
    ∃ w more, e.body = w :: more := by
  have hfits : bodyFits e.kind e.body = true := by
    by_contra hno
    rw [State.classify, if_pos (by simpa using hno)] at h
    cases h
  cases hb : e.body with
  | cons w more => exact ⟨w, more, rfl⟩
  | nil =>
    rw [hb] at hfits
    cases hk : e.kind with
    | read => exact absurd hk hr
    | swap => exact absurd hk hs
    | writePosted => rw [hk] at hfits; cases hfits
    | writeConfirmed => rw [hk] at hfits; cases hfits
    | command => rw [hk] at hfits; cases hfits

/-- Settles O29. -/
theorem messageRemovedOrBounced : Obligations.MessageRemovedOrBounced := by
  refine ⟨fun m s => ⟨fun hg => State.handleMessage_damaged hg s, fun hg hm => State.handleMessage_malformed hg hm s,
      fun hg hm hsrc hk => ?_⟩,
    fun k m s hg hm hsrc hk => ?_, fun m s hg hm hsrc hdst => ?_, fun k m s hg hm hsrc hdst hk hgroup hnil => ?_⟩
  · rw [State.handleMessage_returned hg hm hsrc, State.returned, reqKindOfCode_none hk]
    rfl
  · rw [State.handleMessage_returned hg hm hsrc, State.returned_request hk]
    refine ⟨fun h => State.requestReturns_unmatched h, fun e he hnd hsent htag hdest hkind => ?_⟩
    intro completed
    rw [State.requestReturns_matched he hnd ⟨hsent, htag, hdest, hkind⟩]
    refine ⟨fun h59 => ?_, fun h59 => ⟨fun hrs => ?_, fun hr hs => ?_⟩⟩
    · rw [if_pos h59]
      rfl
    · rw [if_neg (by omega), if_pos (by simpa using hrs)]
      rfl
    · rw [if_neg (by omega), if_neg (by simp [hr, hs])]
      rfl
  · rw [State.handleMessage_delivered hg hm hsrc hdst]
    refine ⟨fun k hk => ?_, fun hk => ⟨fun h => ?_, fun e he hnd h => ?_⟩, fun hk w0 w1 hbody => ?_⟩
    · rw [State.delivered_request hk, State.requestDelivered]
      refine ⟨fun t ht => by rw [ht], fun ht => ?_⟩
      rw [ht, State.bounceReply_eq hdst]
      dsimp only
      rw [State.sendMessage_eq]
      rfl
    · rw [State.delivered_reply hk]
      exact State.replyArrives_unmatched h
    · rw [State.delivered_reply hk]
      exact State.replyArrives_matched he hnd h
    · rw [State.delivered_notice hk]
      exact State.noticeDelivered_eq hbody s
  · rw [State.handleMessage_group hg hm hsrc hdst (State.addressedAsMember_iff.mpr hgroup)]
    refine ⟨fun hrs => ⟨fun hpass => ?_, fun hc hh => ⟨fun ht => ?_, fun t ht => ?_⟩⟩, fun hr hs => ?_⟩
    · rw [State.groupMessage_readSwap hk hrs, State.groupReadSwap_passed hpass, State.answerAll_nil hnil]
    · rw [State.groupMessage_readSwap hk hrs, State.groupReadSwap_own hc hh, ht]
      dsimp only
      rw [State.answerAll_nil (s := s.count .groupReadPassed) hnil]
      rfl
    · rw [State.groupMessage_readSwap hk hrs, State.groupReadSwap_own hc hh, ht]
    · intro e
      rw [State.groupMessage_writeCommand hk hr hs, State.takeGroup]
      refine ⟨fun hc => ?_, fun st w more hbody hc => ?_, fun hc => ⟨fun hlt => ?_, fun hfull => ?_⟩⟩
      · rw [hc]
        dsimp only
        rw [hnil]
        rfl
      · rw [hc]
        dsimp only
        rw [State.answerAll_nil ((State.recordFailure_answering ..).trans hnil)]
        have hindex : reqIndex [captureHead e.body] = bits w.value 23 16 := by
          show reqIndex [captureHead (msgBody m)] = _
          rw [msgBody, hbody]
          rfl
        rw [hindex]
      · rw [hc]
        dsimp only
        rw [if_pos (show _ < Config.workLimit from hlt), State.answerAll_nil (s := State.enqueue _ s) hnil,
          State.enqueue_eq (s := s) rfl rfl rfl]
        rfl
      · obtain ⟨w, more, hbody⟩ := State.body_of_enqueue hc hr hs
        have hindex : reqIndex [captureHead e.body] = reqIndex (msgBody m) := by
          show reqIndex [captureHead e.body] = reqIndex e.body
          rw [hbody]
          rfl
        rw [hc]
        dsimp only
        rw [if_neg (by rw [Config.workLimit]; omega), State.answerAll_nil ((State.recordFailure_answering _ _ _ (s.count .groupMissed)).trans hnil), hindex]
        rfl

end Sys2Proof.Machine
end

section
/-!
The insertion arbiter and the trailer that closes a round (chapter 8): O31.
-/

namespace Sys2Proof.Machine

open Sys2Proof

/-! ### One offer (R133, R134) -/

theorem buildMessage_length (kind dest source tag hops : Nat) (bounced : Bool) (status : Nat) (body : List Word) :
    (buildMessage kind dest source tag hops bounced status body).body.length = body.length := by
  simp [buildMessage, sealMessage]

/-- The machine with an offer sent and MESSAGES_INSERTED counted, before its owner acts (R134, log entry 36). -/
def State.offerSent (o : Offer) (s : State) : State :=
  { s.messageSent (s.offerMessage o) with counters := (s.count .messagesInserted).counters }

theorem State.insertOffered_eq (o : Offer) (s : State) : s.insertOffered o = (s.offerSent o).ownerActs o := by
  rw [State.insertOffered, State.sendMessage_eq]
  rfl

theorem State.arbiter_idle {s : State} (h : s.tracker.tracking ≠ .inRound ∨ s.nextOffer = none) (n : Nat) : s.arbiter n = s := by
  cases n with
  | zero => rfl
  | succ n =>
    rw [State.arbiter]
    split_ifs with hr
    · rfl
    · rw [h.resolve_left (fun hno => hr (by rw [State.not_inRound_of hno]; rfl))]

theorem State.arbiter_offers {s : State} {o : Offer} (hr : s.tracker.tracking = .inRound) (ho : s.nextOffer = some o) (n : Nat) :
    s.arbiter (n + 1) =
      if msgLength (s.offerMessage o) ≤ s.tracker.params.openCapacity - s.tx.words then (s.insertOffered o).arbiter n
      else { s with counters := (s.count .roomShort).counters } := by
  rw [State.arbiter, State.inRound_of hr, ho]
  rfl

/-! ### The trailer that closes the round (R9) -/

theorem State.sendTrailer_left {s : State} (h : (s.arbiter s.arbiterFuel).tracker.tracking ≠ .inRound) :
    s.sendTrailer = s.arbiter s.arbiterFuel := by
  rw [State.sendTrailer]
  dsimp only
  rw [State.not_inRound_of h]
  rfl

theorem State.isMaster_eq_true_iff {s : State} : s.isMaster = true ↔ s.tracker.role = .master := by
  rw [State.isMaster, beq_iff_eq]

theorem State.sendTrailer_closes {s t : State} (ht : t = s.arbiter s.arbiterFuel) (h : t.tracker.tracking = .inRound) :
    s.sendTrailer =
      { t with
        tx := {}
        rx := if t.tracker.role = .master then t.rx else {}
        line := t.lineWith [buildTrailer (t.tracker.params.openCapacity - t.tx.words) t.tx.messages] } := by
  rw [State.sendTrailer, ← ht]
  dsimp only
  rw [State.inRound_of h, State.emit_lineWith]
  simp only [State.isMaster_eq_true_iff]
  rfl

/-- With nothing to insert the trailer alone closes the round (R9). -/
theorem State.sendTrailer_alone {s : State} (hr : s.tracker.tracking = .inRound) (ho : s.nextOffer = none) :
    s.sendTrailer =
      { s with
        tx := {}
        rx := if s.tracker.role = .master then s.rx else {}
        line := s.lineWith [buildTrailer (s.tracker.params.openCapacity - s.tx.words) s.tx.messages] } :=
  State.sendTrailer_closes (State.arbiter_idle (.inr ho) _).symm hr

/-! ### What is offered, in order (R133) -/

theorem State.nextOffer_notice {s : State} {id : Nat} (hr : s.responder.replies = []) (ht : s.config.target = .node id)
    (hn : s.events.notice = .due) (hid : s.tracker.nodeId ≠ some id) : s.nextOffer = some (.notice id) := by
  have hdest : s.noticeDest = some id := by
    rw [State.noticeDest, ht, hn]
    exact if_pos (by simpa using hid)
  rw [State.nextOffer, hr, hdest]

theorem State.nextOffer_request {s : State} {e : OrigEntry} (hr : s.responder.replies = []) (hn : s.noticeDest = none)
    (he : s.originator.find? (fun x => !x.sent) = some e) : s.nextOffer = some (.request e) := by
  rw [State.nextOffer, hr, hn, he]
  rfl

/-- Settles O31. -/
theorem arbiterOffers : Obligations.ArbiterOffers := by
  refine ⟨fun n o s hr ho => State.arbiter_offers hr ho n, fun n s h => State.arbiter_idle h n,
    fun s t ht => ⟨fun h => ?_, fun h => State.sendTrailer_closes ht h⟩, fun s r rest h => ?_,
    fun s id hr ht hn hid => State.nextOffer_notice hr ht hn hid, fun s e hr hn he => State.nextOffer_request hr hn he,
    fun s inserted r hi => ?_, fun s id => ?_, fun s e => ?_⟩
  · rw [State.sendTrailer_left (by rw [← show t = s.arbiter s.arbiterFuel from ht]; exact h)]
    exact ht.symm
  · rw [State.nextOffer, h]
  · have hacts : s.insertOffered (.reply r) = State.releaseMark r.mark inserted := by
      rw [State.insertOffered_eq, State.ownerActs, State.offerSent, State.messageSent, hi]
      dsimp only [State.offerMessage]
      rw [buildMessage_length]
      rfl
    refine ⟨fun hm => ?_, fun hm => ?_, fun hm hr => ?_⟩
    · rw [hacts, hm]
      rfl
    · rw [hacts, hm]
      rfl
    · have hrt : inserted.tracker = s.tracker := by rw [hi]
      have hout : inserted.tracker.tracking = .inRound := by rw [hrt, hr]
      have h := State.originateRestart_restarts (s := inserted) (by rw [hout]; decide)
      have hrel : State.releaseMark r.mark inserted = inserted.originateRestart := by
        rw [hm]
        exact if_neg (by rw [hout]; decide)
      rw [Tracker.carriedFailures_of_ne (by rw [hout]; decide)] at h
      refine ⟨_, hacts.trans hrel, h.blocks, ?_, ?_, ?_, ?_, ?_⟩
      · rw [h.inPort, hi]
      · rw [h.tracker, hrt]
      · rw [← hrt]
        exact h.sent
      · rw [h.events, hi]
      · rw [h.counters, hi]
        rfl
  · rw [State.insertOffered_eq]
    rfl
  · rw [State.insertOffered_eq, State.ownerActs, State.offerSent, State.messageSent]
    dsimp only [State.offerMessage]
    rw [buildMessage_length]
    rfl

end Sys2Proof.Machine
end

section
/-!
Markers at an UP link, and the end of a round at a member (chapter 1): O30.
-/

namespace Sys2Proof.Machine

open Sys2Proof

/-! ### A marker at an UP link (R1, R3) -/

theorem exec_symbol {s : State} (hreset : s.resetAsserted = false) (sym : Symbol) :
    exec (.symbolReceived sym) s = .next (s.symbolArrives sym).finish := next_released hreset _

/-- The machine as a marker finds it: the error run is 0, and what the marker cuts short is dropped (R1, log entries 12, 14). -/
def State.atMarker (s : State) : State :=
  { s with inPort := { s.inPort with errorRun := 0 }, rx := { s.rx with collect := .round, buf := [], outsideRun := false } }

/-- A symbol at a node in ISOLATED or UNNUMBERED has been sent on (R5). -/
def State.relayed (sym : Symbol) (s : State) : State :=
  { s with line := if s.tracker.tracking = .isolated ∨ s.tracker.tracking = .unnumbered then s.lineWith [.symbol sym] else s.line }

theorem State.relay_eq {sym : Symbol} (h : sym ≠ .idle) (s : State) : s.relay sym = s.relayed sym := by
  rw [State.relay, State.relayed, State.emit_lineWith, bne_iff_ne.mpr h, Bool.and_true]
  simp only [State.transparent, Bool.or_eq_true, beq_iff_eq]
  split <;> rfl

theorem State.relayed_inRound {s : State} (hr : s.tracker.tracking = .inRound) (sym : Symbol) : s.relayed sym = s := by
  rw [State.relayed, if_neg (by simp [hr])]

section
variable {s : State} (hreset : s.resetAsserted = false) (hlink : s.inPort.link = .up)
include hreset hlink

/-- A marker, by its kind. -/
theorem exec_marker_relayed (m : Marker) :
    exec (.symbolReceived (.marker m)) s =
      .next (State.finish
        (match m with
        | .roundHeader => (s.relayed (.marker m)).atMarker.headerMarker.settle.collecting .header
        | .trailer => (s.relayed (.marker m)).atMarker.trailerMarker.collecting .trailer
        | .restart => (s.relayed (.marker m)).atMarker.markerInside.collecting .restart
        | .enumeration => (s.relayed (.marker m)).atMarker.markerInside.collecting .enumeration)) := by
  have hrelay := State.relay_eq (sym := .marker m) (by simp) { s with inPort := { s.inPort with errorRun := 0 } }
  rw [exec_symbol hreset, State.symbolArrives, hlink]
  show Host.Outcome.next (State.finish (State.rxMarker m (State.relay (.marker m) { s with inPort := { s.inPort with errorRun := 0 } }))) = _
  rw [hrelay]
  cases m <;> rfl

/-- A marker at a node that takes part in the rounds. -/
theorem exec_marker (hr : s.tracker.tracking = .inRound) (m : Marker) :
    exec (.symbolReceived (.marker m)) s =
      .next (State.finish
        (match m with
        | .roundHeader => s.atMarker.headerMarker.settle.collecting .header
        | .trailer => s.atMarker.trailerMarker.collecting .trailer
        | .restart => s.atMarker.markerInside.collecting .restart
        | .enumeration => s.atMarker.markerInside.collecting .enumeration)) := by
  rw [exec_marker_relayed hreset hlink, State.relayed_inRound hr]

end

/-- With nothing due, nothing is due once the error run is 0 (R1). -/
theorem State.due_nil_of_errorRun {s : State} (h : s.due = []) : ({ s with inPort := { s.inPort with errorRun := 0 } } : State).due = [] := by
  cases ha : s.responder.answering with
  | cons e rest => simp [State.due, ha] at h
  | nil =>
    refine List.eq_nil_iff_forall_not_mem.mpr fun w hw => ?_
    obtain ⟨hc, hready⟩ := (State.mem_due_iff (s := { s with inPort := { s.inPort with errorRun := 0 } }) ha).mp hw
    have hsame : w.ready s = true := by
      cases w with
      | errorRunLimit => simp [Work.ready, Config.errorRunLimit] at hready
      | _ => exact hready
    have hmem : w ∈ s.due := (State.mem_due_iff ha).mpr ⟨hc, hsame⟩
    rw [h] at hmem
    cases hmem

/-! ### A header in a round -/

theorem State.headerArrives_inRound {s : State} (hr : s.tracker.tracking = .inRound) (w0 w1 w2 : RxWord) :
    s.headerArrives w0 w1 w2 = s.headerMarker.settle.headerWords w0 w1 w2 := by
  rw [State.headerArrives, State.passOn_of_not_transparent _ (by simp [hr]) (by simp [hr])]

/-- By its row or at its marker, a header does the same over two states that it finishes alike. -/
theorem exec_header_congr {s t : State} (hs : s.resetAsserted = false) (ht : t.resetAsserted = false)
    (hrs : s.tracker.tracking = .inRound) (hrt : t.tracker.tracking = .inRound) (hlink : t.inPort.link = s.inPort.link)
    (h : s.headerMarker = t.headerMarker) (hm : s.atMarker.headerMarker = t.atMarker.headerMarker) {i : Instr} {w0 w1 w2 : RxWord}
    (hi : i = .roundHeaderArrival w0 w1 w2 ∨ i = .returningHeaderArrival w0 w1 w2 ∨
      i = .symbolReceived (.marker .roundHeader) ∧ s.inPort.link = .up) : exec i s = exec i t := by
  have harrive (hrow : i = .roundHeaderArrival w0 w1 w2 ∨ i = .returningHeaderArrival w0 w1 w2) : exec i s = exec i t := by
    rw [exec_roundHeader hs hrow, exec_roundHeader ht hrow, State.headerArrives_inRound hrs, State.headerArrives_inRound hrt, h]
  rcases hi with hi | hi | ⟨rfl, hup⟩
  · exact harrive (.inl hi)
  · exact harrive (.inr hi)
  · rw [exec_marker hs hup hrs, exec_marker ht (hlink.trans hup) hrt]
    dsimp only
    rw [hm]

theorem State.headerMarker_member {s : State} (hr : s.tracker.tracking = .inRound) (hrole : s.tracker.role = .member) :
    s.headerMarker = s.heard.memberFinish := by
  rw [State.headerMarker, State.inRound_of hr, State.not_isMaster_of hrole]
  rfl

/-! ### Missing slots at a member (R8) -/

theorem State.memberSlot_inSlots {s : State} (h : s.rx.phase = .slots) (c : RxCell) :
    s.memberSlot c = State.handleSlot s.rx.slots c { s with rx := s.rx.nextSlot } := by
  rw [State.memberSlot, h]

theorem State.memberSlot_pass {s : State} (h : s.rx.phase = .slots) (hp : s.slotAction s.rx.slots = .pass) (c : RxCell) :
    s.memberSlot c = { s with rx := s.rx.nextSlot, line := s.lineWith [.cell c] } := by
  have hp' : ({ s with rx := s.rx.nextSlot } : State).slotAction s.rx.slots = .pass := hp
  rw [State.memberSlot_inSlots h, State.handleSlot_eq, hp']
  rfl

theorem State.memberMissing_succ {s : State} (hr : s.tracker.tracking = .inRound) (n : Nat) :
    s.memberMissing (n + 1) = (s.memberSlot idleCell).settle.memberMissing n := by
  rw [State.memberMissing, State.inRound_of hr]
  rfl

theorem State.memberMissing_elsewhere {s : State} (hr : s.tracker.tracking ≠ .inRound) (n : Nat) : s.memberMissing n = s := by
  cases n with
  | zero => rfl
  | succ n =>
    rw [State.memberMissing, State.not_inRound_of hr]
    rfl

/-- Slots under PASS with nothing due: each sends one idle cell on, and the open region follows. -/
theorem State.memberMissing_pass {s : State} (n : Nat) (hr : s.tracker.tracking = .inRound) (hphase : s.rx.phase = .slots)
    (hn : s.rx.slots + (n + 1) = s.rx.slotCount)
    (hpass : ∀ k : Nat, s.rx.slots ≤ k → k < s.rx.slotCount → s.slotAction k = .pass) (hdue : s.due = []) :
    s.memberMissing (n + 1) =
      { s with
        rx := { s.rx with slots := s.rx.slotCount, phase := .openRegion }
        line := s.lineWith (List.replicate (n + 1) (.cell idleCell)) } := by
  induction n generalizing s with
  | zero =>
    rw [State.memberMissing_succ hr, State.memberSlot_pass hphase (hpass _ (Nat.le_refl _) (by omega)), RxRound.nextSlot, hn,
      if_neg (Nat.lt_irrefl _)]
    exact State.settle_of_due_nil hdue
  | succ n ih =>
    have hnext : s.rx.nextSlot = { s.rx with slots := s.rx.slots + 1 } := by
      rw [RxRound.nextSlot, if_pos (by omega), ← hphase]
    rw [State.memberMissing_succ hr, State.memberSlot_pass hphase (hpass _ (Nat.le_refl _) (by omega)), hnext,
      State.settle_of_due_nil (s := { s with rx := { s.rx with slots := s.rx.slots + 1 }, line := s.lineWith [.cell idleCell] }) hdue,
      ih (s := { s with rx := { s.rx with slots := s.rx.slots + 1 }, line := s.lineWith [.cell idleCell] }) hr hphase
        (by show s.rx.slots + 1 + (n + 1) = s.rx.slotCount; omega)
        (fun k hk hlt => hpass k (Nat.le_of_succ_le hk) hlt) hdue]
    have hline := State.lineWith_append s [.cell idleCell] (List.replicate (n + 1) (.cell idleCell))
    exact congrArg (fun l => { s with rx := { s.rx with slots := s.rx.slotCount, phase := .openRegion }, line := l }) hline

/-- The slots that are missing under PASS, where the TRAILER or ROUND_HEADER marker comes before the last slot (R8). -/
def State.passedFill (s : State) : State :=
  { s with
    rx := { s.rx with slots := s.rx.slotCount, phase := .openRegion }
    line := s.lineWith (List.replicate (s.rx.slotCount - s.rx.slots) (.cell idleCell))
    counters := (s.count .framingFault).counters }

theorem State.memberFill_pass {s : State} (hr : s.tracker.tracking = .inRound) (hphase : s.rx.phase = .slots)
    (hlt : s.rx.slots < s.rx.slotCount) (hpass : ∀ k : Nat, s.rx.slots ≤ k → k < s.rx.slotCount → s.slotAction k = .pass)
    (hdue : s.due = []) : s.memberFill = s.passedFill := by
  obtain ⟨n, hn⟩ := Nat.exists_eq_add_of_lt hlt
  have hmissing : s.rx.slotCount - s.rx.slots = n + 1 := by omega
  rw [State.memberFill, State.passedFill, hmissing]
  exact State.memberMissing_pass (s := s.framingFault) n hr hphase (by show s.rx.slots + (n + 1) = s.rx.slotCount; omega) hpass hdue

theorem State.memberFill_none {s : State} (h : s.rx.slotCount ≤ s.rx.slots) : s.memberFill = s.framingFault := by
  rw [State.memberFill, Nat.sub_eq_zero_of_le h]
  rfl

/-! ### The trailer at a member (R9) -/

theorem State.IsMemberInRound.exec_trailer {s : State} (h : s.IsMemberInRound) {i : Instr} {w : RxWord}
    (hi : i = .trailerArrival w ∨ i = .returningTrailerArrival w) : exec i s = .next (s.memberTrailer w).finish := by
  obtain ⟨hreset, hr, hrole⟩ := h
  have harrive : s.trailerArrives w = s.memberTrailer w := by
    rw [State.trailerArrives, State.inRound_of hr, State.not_isMaster_of hrole]; rfl
  rcases hi with rfl | rfl
  · refine (next_released hreset (fun s => if s.inRound && s.isMaster then s.closeEmission else s.trailerArrives w)).trans (next_congr ?_)
    rw [State.inRound_of hr, State.not_isMaster_of hrole]
    exact harrive
  · exact (next_released hreset _).trans (next_congr harrive)

/-- The received trailer agrees with the node's own counts (R9, step 1). -/
abbrev State.TrailerAgrees (w : RxWord) (s : State) : Prop :=
  trailerGood w = true ∧ trailerRoom w = s.tracker.params.openCapacity - s.rx.words ∧ trailerCount w = s.rx.messages

theorem State.checkTrailer_eq (w : RxWord) (s : State) :
    s.checkTrailer w = if s.TrailerAgrees w then s else s.count .trailerMismatch := by
  rw [State.checkTrailer]
  simp only [Bool.and_eq_true, beq_iff_eq, and_assoc]

/-- Only the counters move at the check of a trailer. -/
theorem State.checkTrailer_counters (w : RxWord) (s : State) :
    s.checkTrailer w = { s with counters := (if s.TrailerAgrees w then s else s.count .trailerMismatch).counters } := by
  rw [State.checkTrailer_eq]
  split <;> rfl

/-- The round in hand closed at a member with nothing to insert: these items sent, then the trailer (R9). -/
def State.closedWith (items : List TrunkItem) (counted : Vector Counter 32) (s : State) : State :=
  { s with
    rx := {}
    tx := {}
    line := s.lineWith (items ++ [buildTrailer (s.tracker.params.openCapacity - s.tx.words) s.tx.messages])
    counters := counted }

theorem State.sendTrailer_member {s : State} (hr : s.tracker.tracking = .inRound) (hrole : s.tracker.role = .member)
    (ho : s.nextOffer = none) : s.sendTrailer = s.closedWith [] s.counters := by
  rw [State.sendTrailer_alone hr ho, hrole]
  rfl

/-- The trailer that follows a fill under PASS, the counters as `counted`. -/
theorem State.sendTrailer_passedFill {s : State} (hr : s.tracker.tracking = .inRound) (hrole : s.tracker.role = .member)
    (ho : s.nextOffer = none) (counted : Vector Counter 32) :
    State.sendTrailer { s.passedFill with counters := counted } =
      s.closedWith (List.replicate (s.rx.slotCount - s.rx.slots) (.cell idleCell)) counted := by
  rw [State.sendTrailer_member (s := { s.passedFill with counters := counted }) hr hrole ho]
  have hline := State.lineWith_append s (List.replicate (s.rx.slotCount - s.rx.slots) (.cell idleCell))
    [buildTrailer (s.tracker.params.openCapacity - s.tx.words) s.tx.messages]
  exact congrArg (fun l => { s with rx := {}, tx := {}, line := l, counters := counted }) hline

/-- What the missing slots under PASS leave for the trailer, whether or not there are any. -/
theorem State.sendTrailer_filled {s : State} (hr : s.tracker.tracking = .inRound) (hrole : s.tracker.role = .member)
    (hphase : s.rx.phase = .slots) (ho : s.nextOffer = none) (hdue : s.due = [])
    (hpass : ∀ k : Nat, s.rx.slots ≤ k → k < s.rx.slotCount → s.slotAction k = .pass) (counted : Vector Counter 32) :
    State.sendTrailer { s.memberFill with counters := counted } =
      s.closedWith (List.replicate (s.rx.slotCount - s.rx.slots) (.cell idleCell)) counted := by
  by_cases hlt : s.rx.slots < s.rx.slotCount
  · rw [State.memberFill_pass hr hphase hlt hpass hdue]
    exact State.sendTrailer_passedFill hr hrole ho counted
  · rw [State.memberFill_none (Nat.le_of_not_lt hlt), Nat.sub_eq_zero_of_le (Nat.le_of_not_lt hlt)]
    exact State.sendTrailer_member (s := { s.framingFault with counters := counted }) hr hrole ho

theorem State.memberFill_frame_pass {s : State} (hr : s.tracker.tracking = .inRound) (hphase : s.rx.phase = .slots)
    (hdue : s.due = []) (hpass : ∀ k : Nat, s.rx.slots ≤ k → k < s.rx.slotCount → s.slotAction k = .pass) :
    s.memberFill.tracker = s.tracker ∧ s.memberFill.rx.words = s.rx.words ∧ s.memberFill.rx.messages = s.rx.messages ∧
      s.memberFill.counters = (s.count .framingFault).counters := by
  by_cases hlt : s.rx.slots < s.rx.slotCount
  · rw [State.memberFill_pass hr hphase hlt hpass hdue]
    exact ⟨rfl, rfl, rfl, rfl⟩
  · rw [State.memberFill_none (Nat.le_of_not_lt hlt)]
    exact ⟨rfl, rfl, rfl, rfl⟩

theorem State.memberTrailer_open {s : State} (h : s.rx.phase = .openRegion ∨ s.rx.phase = .discarding) (w : RxWord) :
    s.memberTrailer w = (s.checkTrailer w).sendTrailer := by
  rw [State.memberTrailer]
  rcases h with h | h <;> rw [h]

theorem State.memberTrailer_slots {s : State} (h : s.rx.phase = .slots) (w : RxWord) :
    s.memberTrailer w = if s.memberFill.inRound then (s.memberFill.checkTrailer w).sendTrailer else s.memberFill := by
  rw [State.memberTrailer, h]

/-! ### A header before the trailer at a member (R8) -/

/-- The round in hand is closed as its trailer would, unchecked (R8). -/
theorem State.memberFinish_inside {s : State} (h : s.InsideRound) :
    s.memberFinish =
      if s.rx.phase = .slots then (if s.memberFill.tracker.tracking = .inRound then s.memberFill.sendTrailer else s.memberFill)
      else s.framingFault.sendTrailer := by
  rw [State.memberFinish]
  rcases h with h | h | h
  · rw [h, if_pos rfl]
    simp only [State.inRound_eq_true_iff]
  · rw [h]; rfl
  · rw [h]; rfl

theorem State.memberFinish_outside {s : State} (h : s.rx.phase = .outside) : s.memberFinish = s := by
  rw [State.memberFinish, h]

theorem State.memberFinish_alone {s : State} (hr : s.tracker.tracking = .inRound) (hrole : s.tracker.role = .member)
    (h : s.rx.phase = .openRegion ∨ s.rx.phase = .discarding) (ho : s.nextOffer = none) :
    s.memberFinish = s.closedWith [] (s.count .framingFault).counters := by
  rw [State.memberFinish_inside (.inr h), if_neg (by rcases h with h | h <;> simp [h])]
  exact State.sendTrailer_member (s := s.framingFault) hr hrole ho

theorem State.memberFinish_filled {s : State} (hr : s.tracker.tracking = .inRound) (hrole : s.tracker.role = .member)
    (hphase : s.rx.phase = .slots) (ho : s.nextOffer = none) (hdue : s.due = [])
    (hpass : ∀ k : Nat, s.rx.slots ≤ k → k < s.rx.slotCount → s.slotAction k = .pass) :
    s.memberFinish =
      s.closedWith (List.replicate (s.rx.slotCount - s.rx.slots) (.cell idleCell)) (s.count .framingFault).counters := by
  obtain ⟨htracker, -, -, hcounted⟩ := State.memberFill_frame_pass hr hphase hdue hpass
  rw [State.memberFinish_inside (.inl hphase), if_pos hphase, if_pos (by rw [htracker]; exact hr), ← hcounted]
  exact State.sendTrailer_filled hr hrole hphase ho hdue hpass s.memberFill.counters

/-- A header finishes a round alike whether or not its closing stands in the state already. -/
theorem State.exec_header_closed {s : State} (hs : s.IsMemberInRound) {items : List TrunkItem}
    (h : s.heard.memberFinish = s.heard.closedWith items (s.count .framingFault).counters)
    (hm : s.atMarker.heard.memberFinish = s.atMarker.heard.closedWith items (s.count .framingFault).counters) {i : Instr}
    {w0 w1 w2 : RxWord}
    (hi : i = .roundHeaderArrival w0 w1 w2 ∨ i = .returningHeaderArrival w0 w1 w2 ∨
      i = .symbolReceived (.marker .roundHeader) ∧ s.inPort.link = .up) :
    exec i s = exec i (s.closedWith items (s.count .framingFault).counters) := by
  obtain ⟨hreset, hr, hrole⟩ := hs
  refine exec_header_congr hreset (t := s.closedWith items (s.count .framingFault).counters) hreset hr hr rfl ?_ ?_ hi
  · rw [State.headerMarker_member hr hrole, State.headerMarker_member (s := s.closedWith ..) hr hrole, h]
    exact (State.memberFinish_outside rfl).symm
  · rw [State.headerMarker_member (s := s.atMarker) hr hrole,
      State.headerMarker_member (s := (s.closedWith items (s.count .framingFault).counters).atMarker) hr hrole, hm]
    exact (State.memberFinish_outside rfl).symm

/-! ### The state that a header finds once the round in hand is closed (R8, R9) -/

theorem State.sendTrailer_received {s : State} (hrole : s.tracker.role = .member)
    (h : s.sendTrailer.tracker.tracking = .inRound) : s.sendTrailer.rx = {} := by
  have htracker := s.sendTrailer_tracker.resolve_right (not_not_intro h)
  by_cases ht : (s.arbiter s.arbiterFuel).tracker.tracking = .inRound
  · have hcloses := State.sendTrailer_closes rfl ht
    have harb : (s.arbiter s.arbiterFuel).tracker = s.tracker := by
      rw [hcloses] at htracker
      exact htracker
    rw [hcloses, harb, hrole]
    rfl
  · rw [State.sendTrailer_left ht] at h
    exact absurd h ht

theorem State.memberFinish_resetAsserted {s : State} (h : s.InsideRound) : s.memberFinish.resetAsserted = s.resetAsserted := by
  rw [State.memberFinish_inside h]
  split_ifs
  · rw [State.sendTrailer_resetAsserted, State.memberFill_resetAsserted]
  · exact State.memberFill_resetAsserted s
  · exact State.sendTrailer_resetAsserted s.framingFault

/-- A member that stays IN_ROUND has its tracker as it was, and nothing of the round in hand is left. -/
theorem State.memberFinish_inRound {s : State} (h : s.InsideRound) (hrole : s.tracker.role = .member)
    (hr : s.memberFinish.tracker.tracking = .inRound) : s.memberFinish.tracker = s.tracker ∧ s.memberFinish.rx = {} := by
  rw [State.memberFinish_inside h] at hr ⊢
  split_ifs at hr ⊢ with hphase hfill
  · have hkept := s.memberFill_tracker.resolve_right (not_not_intro hfill)
    exact ⟨(State.sendTrailer_tracker _).resolve_right (not_not_intro hr) |>.trans hkept,
      State.sendTrailer_received (by rw [hkept]; exact hrole) hr⟩
  · exact absurd hr hfill
  · exact ⟨(State.sendTrailer_tracker s.framingFault).resolve_right (not_not_intro hr),
      State.sendTrailer_received (s := s.framingFault) hrole hr⟩

/-- By its row, a header acts on the state that its marker leaves as on the state before. -/
theorem State.exec_header_finished {s : State} (hs : s.IsMemberInRound) (hin : s.InsideRound) {i : Instr} {w0 w1 w2 : RxWord}
    (hi : i = .roundHeaderArrival w0 w1 w2 ∨ i = .returningHeaderArrival w0 w1 w2)
    (hk : s.heard.memberFinish.tracker.tracking = .inRound ∨ s.heard.memberFinish.tracker.tracking = .enumerating) :
    exec i s = exec i s.heard.memberFinish := by
  obtain ⟨hreset, hr, hrole⟩ := hs
  have hin' : s.heard.InsideRound := hin
  have hreset' : s.heard.memberFinish.resetAsserted = false := (State.memberFinish_resetAsserted hin').trans hreset
  have hsame : s.heard.memberFinish.headerMarker = s.heard.memberFinish := by
    rcases hk with hk | hk
    · obtain ⟨htracker, hrx⟩ := State.memberFinish_inRound hin' hrole hk
      have hheard : s.heard.memberFinish.heard = s.heard.memberFinish := by
        rw [State.heard, htracker]
        exact congrArg (fun x => { s.heard.memberFinish with tracker := x }) htracker.symm
      rw [State.headerMarker_member hk (by rw [htracker]; exact hrole), hheard]
      exact State.memberFinish_outside (by rw [hrx])
    · exact State.headerMarker_elsewhere (by rw [hk]; decide)
  have hpass : s.heard.memberFinish.passOn (.header w0 w1 w2) = s.heard.memberFinish := by
    rcases hk with hk | hk <;> exact State.passOn_of_not_transparent _ (by simp [hk]) (by simp [hk])
  rw [exec_roundHeader hreset hi, exec_roundHeader hreset' hi, State.headerArrives_inRound hr, State.headerMarker_member hr hrole,
    State.headerArrives, hpass, hsame]

/-! ### Structures in the wrong place (R8) -/

theorem State.frameMessage_fault {m : RxMessage} {s : State}
    (h : 10 < msgBodyLength m ∨
      m.body.length = msgBodyLength m ∧ s.tracker.params.openCapacity < s.rx.words + (3 + m.body.length)) :
    s.frameMessage m = .fault := by
  rw [State.frameMessage]
  by_cases h10 : 10 < msgBodyLength m
  · exact if_pos h10
  · obtain ⟨hlen, hcap⟩ := h.resolve_left h10
    rw [if_neg h10, if_neg (by omega), if_pos (by rw [msgLength]; omega)]

theorem State.outsideData_eq (s : State) :
    s.outsideData =
      if s.rx.outsideRun = true then s
      else { s with rx := { s.rx with outsideRun := true }, counters := (s.count .framingFault).counters } := by
  rw [State.outsideData]
  rfl

theorem State.memberSlot_outside {s : State} (h : s.rx.phase = .outside) (c : RxCell) : s.memberSlot c = s.outsideData := by
  rw [State.memberSlot, h]

theorem State.memberMessage_outside {s : State} (h : s.rx.phase = .outside) (m : RxMessage) : s.memberMessage m = s.outsideData := by
  rw [State.memberMessage, h]

/-- A TRAILER marker before the last slot at a member (R8). -/
theorem State.exec_trailerMarker_member {s : State} (hs : s.IsMemberInRound) (hlink : s.inPort.link = .up) (hphase : s.rx.phase = .slots)
    (hlt : s.rx.slots < s.rx.slotCount) :
    exec (.symbolReceived (.marker .trailer)) s = .next (s.atMarker.memberFill.collecting .trailer).finish := by
  obtain ⟨hreset, hr, hrole⟩ := hs
  have hmarker : s.atMarker.trailerMarker = s.atMarker.memberFill := by
    rw [State.trailerMarker, if_pos]
    · rw [State.not_isMaster_of (s := s.atMarker) hrole]
      rfl
    · rw [State.inRound_of (s := s.atMarker) hr, Bool.true_and, Bool.and_eq_true, beq_iff_eq, decide_eq_true_eq]
      exact ⟨hphase, hlt⟩
  rw [exec_marker hreset hlink hr]
  dsimp only
  rw [hmarker]

/-- Settles O30. -/
theorem trailerWithoutInsertion : Obligations.TrailerWithoutInsertion := by
  unfold Obligations.TrailerWithoutInsertion
  intro trailerOf fault filled closed checked
  have hclosed {s : State} (h : s.InsideRound) : closed s = s.memberFinish := (State.memberFinish_inside h).symm
  have hchecked (w : RxWord) (s : State) : s.checkTrailer w = checked w s s := State.checkTrailer_eq w s
  refine ⟨fun i w s hi hs => ⟨fun hphase => ?_, fun hphase => ⟨fun hr => ?_, fun hr => ?_⟩, fun hphase ho hdue hpass => ?_,
      fun hphase => ?_⟩,
    fun s u hs hlink hphase hlt hu => ⟨?_, fun hdue hpass => ?_⟩,
    fun i w0 w1 w2 s hs ho hi => ⟨fun hphase => ?_, fun hphase hdue hpass => ?_⟩,
    fun i w0 w1 w2 s hs hin => ⟨fun hi hk => ?_, fun hlink u hu => ?_⟩,
    fun n s => ⟨rfl, fun hr => State.memberMissing_elsewhere hr n, fun hr => State.memberMissing_succ hr n⟩,
    fun c s hphase => ⟨_, rfl, ?_⟩, fun s => ⟨State.settle_of_due_nil, fun h => ?_⟩,
    fun i m s hi hs => ⟨fun hphase h => ?_, fun hphase => ?_⟩, fun i c m s hi hs hphase => ?_⟩
  · have hrun : exec i s = .next ((checked w s s).sendTrailer).finish := by
      rw [hs.exec_trailer hi, State.memberTrailer_open hphase, hchecked]
    refine ⟨hrun, fun ho => ?_⟩
    obtain ⟨-, hr, hrole⟩ := hs
    rw [hrun, ← hchecked, State.checkTrailer_counters]
    exact next_congr (State.sendTrailer_member (s := { s with counters := (checked w s s).counters }) hr hrole ho)
  · have hr' : s.memberFill.tracker.tracking = .inRound := hr
    rw [hs.exec_trailer hi, State.memberTrailer_slots hphase, State.inRound_of hr', if_pos rfl, hchecked]
    rfl
  · have hr' : s.memberFill.tracker.tracking ≠ .inRound := hr
    rw [hs.exec_trailer hi, State.memberTrailer_slots hphase, State.not_inRound_of hr', if_neg Bool.false_ne_true]
    rfl
  · rw [hs.exec_trailer hi, State.memberTrailer_slots hphase]
    obtain ⟨-, hr, hrole⟩ := hs
    obtain ⟨htracker, hwords, hmessages, hcounted⟩ := State.memberFill_frame_pass hr hphase hdue hpass
    have hagrees : s.memberFill.TrailerAgrees w ↔ s.TrailerAgrees w := by
      rw [State.TrailerAgrees, htracker, hwords, hmessages]
    rw [State.inRound_of (by rw [htracker]; exact hr), if_pos rfl, State.checkTrailer_counters,
      State.sendTrailer_filled hr hrole hphase ho hdue hpass]
    have hcounters : (if s.memberFill.TrailerAgrees w then s.memberFill else s.memberFill.count .trailerMismatch).counters =
        (checked w s (s.count .framingFault)).counters := by
      by_cases ha : s.TrailerAgrees w
      · rw [if_pos (hagrees.mpr ha), hcounted]
        exact congrArg State.counters (if_pos ha).symm
      · rw [if_neg (mt hagrees.mp ha), State.count, State.countN, hcounted]
        have hno : checked w s (s.count .framingFault) = (s.count .framingFault).count .trailerMismatch := if_neg ha
        rw [hno]
        rfl
    rw [hcounters]
    rfl
  · rw [hs.exec_trailer hi, State.memberTrailer, hphase]
    rfl
  · rw [State.exec_trailerMarker_member hs hlink hphase hlt, hu]
    rfl
  · rw [State.exec_trailerMarker_member hs hlink hphase hlt, hu]
    obtain ⟨-, hr, -⟩ := hs
    rw [State.memberFill_pass (s := s.atMarker) hr hphase hlt hpass (State.due_nil_of_errorRun hdue)]
    rfl
  · obtain ⟨-, hr, hrole⟩ := id hs
    exact State.exec_header_closed hs (items := []) (State.memberFinish_alone (s := s.heard) hr hrole hphase ho)
      (State.memberFinish_alone (s := s.atMarker.heard) hr hrole hphase ho) hi
  · have hdue' : s.atMarker.heard.due = [] := State.due_nil_of_errorRun (s := s.heard) hdue
    obtain ⟨-, hr, hrole⟩ := id hs
    exact State.exec_header_closed hs (State.memberFinish_filled (s := s.heard) hr hrole hphase ho hdue hpass)
      (State.memberFinish_filled (s := s.atMarker.heard) hr hrole hphase ho hdue' hpass) hi
  · rw [hclosed (s := s.heard) hin] at hk ⊢
    exact State.exec_header_finished hs hin hi hk
  · obtain ⟨hreset, hr, hrole⟩ := hs
    rw [exec_marker hreset hlink hr]
    dsimp only
    rw [State.headerMarker_member (s := s.atMarker) hr hrole, ← hclosed (s := s.atMarker.heard) hin, hu]
    rfl
  · exact State.memberSlot_inSlots hphase c ▸ State.handleSlot_eq _ c _
  · rw [State.finish, h]
    rfl
  · rw [hs.exec_message hi, State.memberMessage, hphase]
    dsimp only
    rw [State.frameMessage_fault h]
    rfl
  · rw [hs.exec_message hi, State.memberMessage, hphase]
  · rw [← State.outsideData_eq]
    rcases hi with hi | hi | hi | hi
    · rw [hs.exec_cell (.inl hi), State.memberSlot_outside hphase]
    · rw [hs.exec_cell (.inr hi), State.memberSlot_outside hphase]
    · rw [hs.exec_message (.inl hi), State.memberMessage_outside hphase]
    · rw [hs.exec_message (.inr hi), State.memberMessage_outside hphase]

end Sys2Proof.Machine
end

section
/-!
Rounds at the master: the emission, the carry store and what is carried (chapter 1): O32 to O35.
-/

namespace Sys2Proof.Machine

open Sys2Proof

/-! ### The emission (R11, R14, R16) -/

theorem State.carryReady_iff {s : State} : s.carryReady = true ↔ s.carry.state = .complete ∧ s.carry.round = s.tracker.round := by
  rw [State.carryReady, Bool.and_eq_true, beq_iff_eq, beq_iff_eq]

/-- RING_LATE at a round start, as the choice draws it (log entry 32). -/
theorem EventUnit.startLate_of (u : EventUnit) (c : NodeConfig) (n : Nat) :
    u.startLate (n % 2 == 0) c = if n % 2 = 0 then u.raise c .ringLate else { u with lateDue := true } := by
  rw [EventUnit.startLate]
  exact if_congr beq_iff_eq rfl rfl

/-- A late round, field by field (R16). -/
theorem State.lateReturn_eq (s : State) :
    s.lateReturn =
      { s with
        choice := s.choice / 2
        counters := (s.count .lateReturn).counters
        events := if s.choice % 2 = 0 then s.events.raise s.config .ringLate else { s.events with lateDue := true }
        rx := if s.carry.state = .filling ∧ s.rx.phase ≠ .outside then { s.rx with phase := .absorbing, buf := [] } else s.rx } := by
  have hlate : (s.count .lateReturn).startLate =
      { s with
        choice := s.choice / 2
        counters := (s.count .lateReturn).counters
        events := if s.choice % 2 = 0 then s.events.raise s.config .ringLate else { s.events with lateDue := true } } := by
    rw [← EventUnit.startLate_of]
    rfl
  rw [State.lateReturn, hlate]
  simp only [Bool.and_eq_true, decide_eq_true_eq]
  split_ifs <;> rfl

theorem State.closeEmission_idle {s : State} (h : s.tx.active = false) : s.closeEmission = s := by
  rw [State.closeEmission, h]
  rfl

/-- With the round in hand finished and nothing due, the next header goes out at once (R11). -/
theorem State.IsMasterInRound.exec_emission {s : State} (h : s.IsMasterInRound) (ha : s.tx.active = false) (hdue : s.due = []) :
    exec .roundEmission s = .next s.emitNext.finish := by
  obtain ⟨hreset, hr, hrole⟩ := h
  refine (next_released hreset State.emission).trans (next_congr ?_)
  rw [State.emission, State.closeEmission_idle ha, State.settle_of_due_nil hdue]
  dsimp only
  rw [State.inRound_of hr, State.isMaster_of hrole]
  rfl

/-- Settles O32. -/
theorem roundEmission : Obligations.RoundEmission := by
  intro s hs ha hdue
  have hrun := hs.exec_emission ha hdue
  by_cases hready : s.carry.state = .complete ∧ s.carry.round = s.tracker.round
  · rw [State.emitNext, if_pos (State.carryReady_iff.mpr hready)] at hrun
    have h := State.emitHeader_starts s false (s.tracker.round + 1) s.carry.cells s.carry.messages
    exact ⟨_, hrun, h.tracker, h.sent, h.carry, fun _ => ⟨h.blocks, h.tx, h.counters, h.events, h.rx⟩, fun hno => absurd hready hno⟩
  · rw [State.emitNext, if_neg (mt State.carryReady_iff.mp hready), State.lateReturn_eq] at hrun
    have h := State.emitHeader_starts
      { s with
        choice := s.choice / 2
        counters := (s.count .lateReturn).counters
        events := if s.choice % 2 = 0 then s.events.raise s.config .ringLate else { s.events with lateDue := true }
        rx := if s.carry.state = .filling ∧ s.rx.phase ≠ .outside then { s.rx with phase := .absorbing, buf := [] } else s.rx }
      false (s.tracker.round + 1) [] []
    exact ⟨_, hrun, h.tracker, h.sent, h.carry, fun hyes => absurd hyes hready,
      fun _ => ⟨{ h.blocks with }, h.tx, h.counters, h.events, h.rx⟩⟩

/-! ### A returning header (R13) -/

theorem State.headerMarker_master {s : State} (hr : s.tracker.tracking = .inRound) (hrole : s.tracker.role = .master) :
    s.headerMarker = s.heard.masterFinish := by
  rw [State.headerMarker, State.inRound_of hr, State.isMaster_of hrole]
  rfl

/-- What a returning header leaves at the master (R13). -/
theorem State.masterHeader_eq (w0 w1 w2 : RxWord) (s : State) :
    s.masterHeader w0 w1 w2 =
      { s with
        tracker := { s.tracker with missed := 0 }
        counters := (if headerGood w0 w1 w2 then s else s.count .headerCheckFail).counters
        carry :=
          if s.carry.state = .empty ∧ (headerGood w0 w1 w2 = true → headerRound w0 = s.tracker.round) then
            { state := .filling, round := s.tracker.round }
          else s.carry
        rx :=
          if s.carry.state = .empty ∧ (headerGood w0 w1 w2 = true → headerRound w0 = s.tracker.round) then
            { phase := .slots
              slotCount := if headerGood w0 w1 w2 then (headerParams w0 w1).slotCount else s.tracker.params.slotCount }
          else { phase := .absorbing } } := by
  rw [State.masterHeader]
  cases hg : headerGood w0 w1 w2 with
  | true =>
    by_cases hc : s.carry.state = .empty
    · by_cases hn : headerRound w0 = s.tracker.round
      · simp [hc, hn, State.storeBegin, headerParams]
      · simp [hc, hn]
    · simp [hc]
  | false =>
    by_cases hc : s.carry.state = .empty
    · simp [hc, State.storeBegin, State.count, State.countN]
    · simp [hc, State.count, State.countN]

/-- Settles O33. -/
theorem returningHeader : Obligations.ReturningHeader := by
  intro i w0 w1 w2 s hi hs hphase hdue
  obtain ⟨hreset, hr, hrole⟩ := hs
  have hmarker : s.headerMarker = { s.heard with rx := {} } := by
    rw [State.headerMarker_master hr hrole, State.masterFinish, show s.heard.rx.phase = .outside from hphase]
  rw [exec_roundHeader hreset hi.symm, State.headerArrives_inRound hr, hmarker, State.settle_of_due_nil hdue, State.headerWords,
    show ({ s.heard with rx := {} } : State).tracker.tracking = .inRound from hr,
    State.isMaster_of (s := { s.heard with rx := {} }) hrole]
  dsimp only
  rw [if_pos rfl, State.masterHeader_eq]
  cases headerGood w0 w1 w2 <;> rfl

/-! ### The rest of a FILLING round (R8, R13) -/

section
variable {s : State} (h : s.IsMasterInRound)
include h

theorem State.IsMasterInRound.exec_returningCell (c : RxCell) :
    exec (.returningCellArrival c) s = .next (s.masterCell c).finish := by
  obtain ⟨hreset, hr, hrole⟩ := h
  refine (next_released hreset (State.cellArrives c)).trans (next_congr ?_)
  rw [State.cellArrives, State.inRound_of hr, State.isMaster_of hrole]
  rfl

theorem State.IsMasterInRound.exec_returningMessage (m : RxMessage) :
    exec (.returningMessageArrival m) s = .next (s.masterMessage m).finish := by
  obtain ⟨hreset, hr, hrole⟩ := h
  refine (next_released hreset (State.messageArrives m)).trans (next_congr ?_)
  rw [State.messageArrives, State.inRound_of hr, State.isMaster_of hrole]
  rfl

theorem State.IsMasterInRound.exec_returningTrailer (w : RxWord) :
    exec (.returningTrailerArrival w) s = .next (s.masterTrailer w).finish := by
  obtain ⟨hreset, hr, hrole⟩ := h
  refine (next_released hreset (State.trailerArrives w)).trans (next_congr ?_)
  rw [State.trailerArrives, State.inRound_of hr, State.isMaster_of hrole]
  rfl

/-- A header finishes a FILLING or absorbed round alike whether or not its end stands in the state already. -/
theorem State.IsMasterInRound.exec_header_finished {cells : List RxCell} {k : CarryState} {counted : Vector Counter 32}
    (hfin : s.heard.masterFinish = { s.heard with rx := {}, carry := { s.carry with state := k, cells := cells }, counters := counted })
    (hmark : s.atMarker.heard.masterFinish =
      { s.atMarker.heard with rx := {}, carry := { s.carry with state := k, cells := cells }, counters := counted })
    {i : Instr} {w0 w1 w2 : RxWord}
    (hi : i = .returningHeaderArrival w0 w1 w2 ∨ i = .roundHeaderArrival w0 w1 w2 ∨
      i = .symbolReceived (.marker .roundHeader) ∧ s.inPort.link = .up) :
    exec i s = exec i { s with rx := {}, carry := { s.carry with state := k, cells := cells }, counters := counted } := by
  obtain ⟨hreset, hr, hrole⟩ := h
  refine exec_header_congr hreset
    (t := { s with rx := {}, carry := { s.carry with state := k, cells := cells }, counters := counted }) hreset hr hr rfl ?_ ?_
    (or_left_comm.mp hi)
  · rw [State.headerMarker_master hr hrole, hfin, State.headerMarker_master
      (s := { s with rx := {}, carry := { s.carry with state := k, cells := cells }, counters := counted }) hr hrole]
    rfl
  · rw [State.headerMarker_master (s := s.atMarker) hr hrole, hmark, State.headerMarker_master
      (s := State.atMarker { s with rx := {}, carry := { s.carry with state := k, cells := cells }, counters := counted }) hr hrole]
    rfl

/-- A TRAILER marker before the last slot of a FILLING round (R8, R13). -/
theorem State.IsMasterInRound.exec_trailerMarker (hlink : s.inPort.link = .up) (hphase : s.rx.phase = .slots)
    (hlt : s.rx.slots < s.rx.slotCount) :
    exec (.symbolReceived (.marker .trailer)) s = .next (s.atMarker.masterFill.collecting .trailer).finish := by
  obtain ⟨hreset, hr, hrole⟩ := h
  have hmarker : s.atMarker.trailerMarker = s.atMarker.masterFill := by
    rw [State.trailerMarker, if_pos]
    · rw [State.isMaster_of (s := s.atMarker) hrole]
      rfl
    · rw [State.inRound_of (s := s.atMarker) hr, Bool.true_and, Bool.and_eq_true, beq_iff_eq, decide_eq_true_eq]
      exact ⟨hphase, hlt⟩
  rw [exec_marker hreset hlink hr]
  dsimp only
  rw [hmarker]

end

theorem State.masterFinish_open {s : State} (h : s.rx.phase = .openRegion ∨ s.rx.phase = .discarding) :
    s.masterFinish = s.framingFault.storeComplete := by
  rw [State.masterFinish]
  rcases h with h | h <;> rw [h]

theorem State.masterFinish_slots {s : State} (h : s.rx.phase = .slots) : s.masterFinish = s.masterFill.storeComplete := by
  rw [State.masterFinish, h]

theorem State.masterFinish_absorbing {s : State} (h : s.rx.phase = .absorbing) : s.masterFinish = { s with rx := {} } := by
  rw [State.masterFinish, h]

/-- Settles O34. -/
theorem returningRoundStored : Obligations.ReturningRoundStored := by
  unfold Obligations.ReturningRoundStored
  intro checked filled
  refine ⟨fun c s hs hphase => ?_, fun m s hs hphase => ⟨fun hlen h10 hcap => ?_, fun h => ?_⟩,
    fun w s hs => ⟨fun hphase => ?_, fun hphase => ?_, fun hphase => ?_⟩, fun s hs hlink hphase hlt => ?_,
    fun i w0 w1 w2 s hs hi => ⟨fun hphase => ?_, fun hphase => ?_, fun hphase => ?_⟩,
    fun c m s hs hphase => ⟨?_, ?_⟩, fun w s hs hphase => ?_⟩
  · rw [hs.exec_returningCell, State.masterCell, hphase]
    rfl
  · rw [hs.exec_returningMessage, State.masterMessage, hphase]
    dsimp only
    rw [State.frameMessage_whole hlen h10 hcap]
    rfl
  · rw [hs.exec_returningMessage, State.masterMessage, hphase]
    dsimp only
    rw [State.frameMessage_fault h]
    rfl
  · have htrailer : s.masterTrailer w = (s.checkTrailer w).storeComplete := by
      rw [State.masterTrailer]
      rcases hphase with h | h <;> rw [h]
    rw [hs.exec_returningTrailer, htrailer, State.checkTrailer_counters]
    rfl
  · rw [hs.exec_returningTrailer, State.masterTrailer, hphase]
    dsimp only
    rw [State.checkTrailer_eq]
    by_cases ha : s.TrailerAgrees w
    · have hyes : checked w s (s.count .framingFault) = s.count .framingFault := if_pos ha
      rw [hyes, if_pos (show s.masterFill.TrailerAgrees w from ha)]
      rfl
    · have hno : checked w s (s.count .framingFault) = (s.count .framingFault).count .trailerMismatch := if_neg ha
      rw [hno, if_neg (show ¬s.masterFill.TrailerAgrees w from ha)]
      rfl
  · rw [hs.exec_returningTrailer, State.masterTrailer, hphase]
  · rw [hs.exec_trailerMarker hlink hphase hlt]
    rfl
  · exact hs.exec_header_finished (State.masterFinish_open (s := s.heard) hphase) (State.masterFinish_open (s := s.atMarker.heard) hphase) hi
  · exact hs.exec_header_finished (State.masterFinish_slots (s := s.heard) hphase) (State.masterFinish_slots (s := s.atMarker.heard) hphase) hi
  · exact hs.exec_header_finished (State.masterFinish_absorbing (s := s.heard) hphase)
      (State.masterFinish_absorbing (s := s.atMarker.heard) hphase) hi
  · rw [hs.exec_returningCell, State.masterCell]
    rcases hphase with h | h | h <;> rw [h]
  · rw [hs.exec_returningMessage, State.masterMessage]
    rcases hphase with h | h | h <;> rw [h]
  · rw [hs.exec_returningTrailer, State.masterTrailer, hphase]

/-! ### What the master carries (R14, R15) -/

/-- Settles O35. -/
theorem masterCarriesRound : Obligations.MasterCarriesRound := by
  refine ⟨fun c s => rfl, fun s hs ha => ⟨fun x hlt => ?_, fun hle => ⟨fun x m rest hm => ?_, fun hm w => ?_⟩⟩⟩
  · intro u
    obtain ⟨hreset, hr, hrole⟩ := hs
    have hrun : exec (.slotEvent x) s = .next s.carrySlot.finish := by
      refine (next_released hreset (fun s => if s.inRound && s.isMaster then s.carrySlot else s.cellArrives x)).trans (next_congr ?_)
      rw [State.inRound_of hr, State.isMaster_of hrole]
      rfl
    have hcarry : s.carrySlot =
        State.handleSlot s.tx.slots
          (match s.tx.carryCells[s.tx.slots]? with
          | none => (idleCell, u)
          | some c => u.carryCell c).1
          (match s.tx.carryCells[s.tx.slots]? with
          | none => (idleCell, u)
          | some c => u.carryCell c).2 := by
      rw [State.carrySlot, ha]
      exact if_pos (by simpa using hlt)
    refine ⟨fun hnone => ?_, fun c hsome => ?_⟩
    · rw [hrun, hcarry, hnone]
    · rw [hrun, hcarry, hsome]
  · obtain ⟨hreset, hr, hrole⟩ := hs
    refine (next_released hreset (fun s => if s.inRound && s.isMaster then s.carryMessage else s.messageArrives x)).trans (next_congr ?_)
    rw [State.inRound_of hr, State.isMaster_of hrole]
    show s.carryMessage = _
    rw [State.carryMessage, ha, if_pos (by simpa using hle), hm]
  · obtain ⟨hreset, hr, hrole⟩ := hs
    have hclose : s.closeEmission = s.sendTrailer := by
      rw [State.closeEmission, ha, if_pos rfl, Nat.sub_eq_zero_of_le hle]
      dsimp only [State.carrySlots]
      rw [hm]
      exact if_pos (State.inRound_of hr)
    have hrun : exec (.trailerArrival w) s = .next s.sendTrailer.finish := by
      refine (next_released hreset (fun s => if s.inRound && s.isMaster then s.closeEmission else s.trailerArrives w)).trans (next_congr ?_)
      rw [State.inRound_of hr, State.isMaster_of hrole]
      exact hclose
    refine ⟨hrun, fun ho => hrun.trans (next_congr ?_)⟩
    rw [State.sendTrailer_alone hr ho, hrole]
    rfl

end Sys2Proof.Machine
end

section
/-!
The IN port symbol by symbol: the link, markers and the words behind them (chapter 1): O5.
-/

namespace Sys2Proof.Machine

open Sys2Proof

/-! ### A data word at an UP link (R1, R3) -/

/-- The state that a word finds differs from the one before in the port, the counters, the line and the count of unknown words only. -/
theorem State.HandsWord.frame {s u : State} {sym : Symbol} {w : RxWord} (h : s.HandsWord sym w u) :
    u.resetAsserted = false ∧ u.tracker = s.tracker ∧ u.rx = s.rx ∧ u.events = s.events ∧ u.config = s.config := by
  obtain ⟨hreset, -, line, -, ⟨v, -, -, rfl⟩ | ⟨-, -, rfl⟩⟩ := h <;> exact ⟨hreset, rfl, rfl, rfl, rfl⟩

theorem State.HandsWord.exec {s u : State} {sym : Symbol} {w : RxWord} (h : s.HandsWord sym w u) :
    exec (.symbolReceived sym) s = .next (u.rxData w).finish := by
  obtain ⟨hreset, hlink, line, hline, ⟨v, rfl, rfl, rfl⟩ | ⟨rfl, rfl, rfl⟩⟩ := h
  · have hrelay := State.relay_eq (sym := .data v) (by simp) { s with inPort := { s.inPort with errorRun := 0 } }
    rw [exec_symbol hreset, State.symbolArrives, hlink]
    show Host.Outcome.next (State.finish (State.rxData { value := v }
      (State.relay (.data v) { s with inPort := { s.inPort with errorRun := 0 } }))) = _
    rw [hrelay, hline]
    rfl
  · have hrelay := State.relay_eq (sym := .invalid) (by simp) (s.errorCount .invalid)
    rw [exec_symbol hreset, State.symbolArrives, hlink]
    show Host.Outcome.next (State.finish (State.handSymbol .invalid (s.errorCount .invalid))) = _
    rw [State.handSymbol]
    dsimp only
    rw [hrelay, hline]
    rfl

/-- A word that completes no structure is kept with those before it. -/
theorem State.push_eq (w : RxWord) (s : State) : s.push w = { s with rx := { s.rx with buf := s.rx.buf ++ [w] } } := rfl

theorem State.collected_eq (s : State) : s.collected = s.taken := rfl

section
variable {s : State} {w : RxWord}

theorem State.rxData_behindMarker (hc : s.rx.collect = .header ∨ s.rx.collect = .restart) (hb : s.rx.buf.length < 2) :
    s.rxData w = s.push w := by
  rw [State.rxData]
  match hbuf : s.rx.buf with
  | [] => rcases hc with hc | hc <;> rw [hc]
  | [_] => rcases hc with hc | hc <;> rw [hc]
  | _ :: _ :: _ => rw [hbuf] at hb; simp at hb

theorem State.rxData_inFrame (hc : s.rx.collect = .enumeration) (hb : s.rx.buf.length < 3) : s.rxData w = s.push w := by
  rw [State.rxData, hc]
  match hbuf : s.rx.buf with
  | [] => rfl
  | [_] => rfl
  | [_, _] => rfl
  | _ :: _ :: _ :: _ => rw [hbuf] at hb; simp at hb; omega

theorem State.rxData_header {a b : RxWord} (hc : s.rx.collect = .header) (hb : s.rx.buf = [a, b]) :
    s.rxData w = s.taken.headerWords a b w := by
  rw [State.rxData, hc, hb]
  rfl

theorem State.rxData_restart {a b : RxWord} (hc : s.rx.collect = .restart) (hb : s.rx.buf = [a, b]) :
    s.rxData w = s.taken.restartWords a b w := by
  rw [State.rxData, hc, hb]
  rfl

theorem State.rxData_enumeration {a b c : RxWord} (hc : s.rx.collect = .enumeration) (hb : s.rx.buf = [a, b, c]) :
    s.rxData w = s.taken.enumWords a b c w := by
  rw [State.rxData, hc, hb]
  rfl

theorem State.rxData_trailer (hc : s.rx.collect = .trailer) : s.rxData w = s.taken.trailerWord w := by
  rw [State.rxData, hc]
  rfl

theorem State.rxData_round (hc : s.rx.collect = .round) : s.rxData w = s.roundWord w := by
  rw [State.rxData, hc]

end

/-! ### The last word behind a marker, between rounds or outside them -/

theorem State.memberHeader_heard (w0 w1 w2 : RxWord) (s : State) : s.heard.memberHeader w0 w1 w2 = s.memberHeader w0 w1 w2 := by
  rw [State.memberHeader, State.memberHeader]
  cases headerGood w0 w1 w2 with
  | true =>
    by_cases hn : headerRound w0 = s.tracker.round + 1
    · rw [if_pos (show headerRound w0 = s.heard.tracker.round + 1 from hn), if_pos hn]
      rfl
    · rw [if_neg (show ¬headerRound w0 = s.heard.tracker.round + 1 from hn), if_neg hn]
      rfl
  | false => rfl

theorem State.masterHeader_heard (w0 w1 w2 : RxWord) (s : State) :
    State.masterHeader w0 w1 w2 { s.heard with rx := {} } = s.masterHeader w0 w1 w2 := by
  rw [State.masterHeader_eq, State.masterHeader_eq]
  cases headerGood w0 w1 w2 <;> rfl

theorem State.headerWords_member {s : State} {w0 w1 w2 : RxWord} (hr : s.tracker.tracking = .inRound) (hrole : s.tracker.role = .member) :
    s.headerWords w0 w1 w2 = s.memberHeader w0 w1 w2 := by
  rw [State.headerWords, hr, State.not_isMaster_of hrole]
  rfl

theorem State.headerWords_master {s : State} {w0 w1 w2 : RxWord} (hr : s.tracker.tracking = .inRound) (hrole : s.tracker.role = .master) :
    s.headerWords w0 w1 w2 = s.masterHeader w0 w1 w2 := by
  rw [State.headerWords, hr, State.isMaster_of hrole]
  rfl

/-- A ROUND_HEADER marker with no round in hand (R10, R13). -/
theorem State.headerMarker_between {s : State} (hr : s.tracker.tracking = .inRound) (hphase : s.rx.phase = .outside) :
    s.headerMarker = { s.heard with rx := if s.tracker.role = .master then {} else s.rx } := by
  cases hrole : s.tracker.role with
  | member =>
    rw [State.headerMarker_member hr hrole, State.memberFinish_outside (s := s.heard) hphase]
    rfl
  | master =>
    rw [State.headerMarker_master hr hrole, State.masterFinish, show s.heard.rx.phase = .outside from hphase]
    rfl

/-- With no round in hand and nothing due, the marker adds nothing to what the words behind it do. -/
theorem State.headerArrives_between {s : State} (w0 w1 w2 : RxWord) (hi : s.tracker.tracking ≠ .isolated)
    (hu : s.tracker.tracking ≠ .unnumbered) (hr : s.tracker.tracking = .inRound → s.rx.phase = .outside) (hdue : s.due = [])
    (hheard : s.heard.due = []) : s.headerArrives w0 w1 w2 = s.headerWords w0 w1 w2 := by
  by_cases hk : s.tracker.tracking = .inRound
  · rw [State.headerArrives_inRound hk, State.headerMarker_between hk (hr hk)]
    cases hrole : s.tracker.role with
    | member =>
      rw [if_neg (by decide), State.settle_of_due_nil (s := { s.heard with rx := s.rx }) hheard,
        State.headerWords_member (s := { s.heard with rx := s.rx }) hk hrole, State.headerWords_member hk hrole]
      exact State.memberHeader_heard w0 w1 w2 s
    | master =>
      rw [if_pos rfl, State.settle_of_due_nil (s := { s.heard with rx := {} }) hheard,
        State.headerWords_master (s := { s.heard with rx := {} }) hk hrole, State.headerWords_master hk hrole]
      exact State.masterHeader_heard w0 w1 w2 s
  · exact State.headerArrives_elsewhere w0 w1 w2 hi hu hk hdue

/-- With no round in hand and no run of data outside any structure, the marker changes nothing. -/
theorem State.markerInside_quiet {s : State} (h : s.tracker.tracking = .inRound → s.rx.phase = .outside ∧ s.rx.outsideRun = false) :
    s.markerInside = s := by
  by_cases hk : s.tracker.tracking = .inRound
  · obtain ⟨hphase, hrun⟩ := h hk
    rw [State.markerInside_outside hk hphase, State.withRun, ← hrun]
  · exact State.markerInside_elsewhere hk

/-! ### Words of a cell (R3) -/

theorem State.roundWord_slots {s : State} {w : RxWord} (hr : s.tracker.tracking = .inRound) (hphase : s.rx.phase = .slots) :
    s.roundWord w = s.slotWord w := by
  rw [State.roundWord, State.inRound_of hr, hphase]
  rfl

theorem State.roundWord_open {s : State} {w : RxWord} (hr : s.tracker.tracking = .inRound) (hphase : s.rx.phase = .openRegion) :
    s.roundWord w = s.openWord w := by
  rw [State.roundWord, State.inRound_of hr, hphase]
  rfl

theorem State.slotWord_more {s : State} {w : RxWord} (hb : s.rx.buf.length < 6) : s.slotWord w = s.push w := by
  rw [State.slotWord]
  match hbuf : s.rx.buf with
  | [] => rfl
  | [_] => rfl
  | [_, _] => rfl
  | [_, _, _] => rfl
  | [_, _, _, _] => rfl
  | [_, _, _, _, _] => rfl
  | _ :: _ :: _ :: _ :: _ :: _ :: _ => rw [hbuf] at hb; simp at hb; omega

theorem State.slotWord_last {s : State} {w h a b c d e : RxWord} (hb : s.rx.buf = [h, a, b, c, d, e]) :
    s.slotWord w = s.taken.cellArrives { header := h, payload := #v[a, b, c, d, e, w] } := by
  rw [State.slotWord, hb]
  rfl

/-! ### Words of a message in the open region (R3, R8) -/

theorem knownBody_eq (ws : List RxWord) : knownBody ws = match ws with | _ :: h :: _ => bits h.value 23 20 | _ => 0 := by
  match ws with
  | [] => rfl
  | [_] => rfl
  | _ :: _ :: _ => rfl

theorem wordsMessage_short {ws : List RxWord} (h : ws.length < 3 + knownBody ws) : wordsMessage ws = none := by
  match ws with
  | [] => rfl
  | [_] => rfl
  | a :: b :: rest =>
    have hlen : rest.length ≠ bodyLengthOf b + 1 := by
      have hb : rest.length + 2 < 3 + bodyLengthOf b := h
      omega
    rw [wordsMessage]
    cases rest.getLast? with
    | none => rfl
    | some c => exact if_neg hlen

theorem wordsMessage_whole {m : RxMessage} (h : m.body.length = msgBodyLength m) :
    wordsMessage (m.head0 :: m.head1 :: (m.body ++ [m.check])) = some m := by
  rw [wordsMessage, List.getLast?_concat]
  have hlen : (m.body ++ [m.check]).length = bodyLengthOf m.head1 + 1 := by
    rw [List.length_append, h]
    rfl
  dsimp only
  rw [if_pos hlen, List.dropLast_concat]

section
variable {s : State} {w : RxWord}

theorem State.openWord_fault
    (h : 10 < knownBody (s.rx.buf ++ [w]) ∨ s.tracker.params.openCapacity < s.rx.words + 3 + knownBody (s.rx.buf ++ [w])) :
    s.openWord w = s.taken.discardRest := by
  rw [State.openWord]
  exact if_pos (by rw [Bool.or_eq_true, decide_eq_true_eq, decide_eq_true_eq]; exact h)

theorem State.openWord_fits (h10 : knownBody (s.rx.buf ++ [w]) ≤ 10)
    (hcap : s.rx.words + 3 + knownBody (s.rx.buf ++ [w]) ≤ s.tracker.params.openCapacity) :
    s.openWord w =
      match wordsMessage (s.rx.buf ++ [w]) with
      | some m => s.collected.messageArrives m
      | none => s.push w := by
  rw [State.openWord]
  exact if_neg (by rw [Bool.or_eq_true, decide_eq_true_eq, decide_eq_true_eq]; omega)

end

/-! ### The link below UP (R1) -/

theorem exec_symbol_down {s : State} (h : s.inPort.link = .down) (sym : Symbol) : exec (.symbolReceived sym) s = .next s.finish := by
  cases hreset : s.resetAsserted with
  | true => exact next_asserted hreset _
  | false =>
    rw [exec_symbol hreset, State.symbolArrives, h]

theorem exec_symbol_training {s : State} (hreset : s.resetAsserted = false) (h : s.inPort.link = .training) (sym : Symbol) :
    exec (.symbolReceived sym) s =
      .next (State.finish { s with inPort := { s.inPort with goodIdle := if sym = .idle then min 32 (s.inPort.goodIdle + 1) else 0 } }) := by
  rw [exec_symbol hreset, State.symbolArrives, h]
  rfl

/-! ### A marker at the reception (R3, R8) -/

/-- The machine as a marker of this kind finds it, the symbol itself sent on where the node is transparent (R5). -/
def State.markerMet (m : Marker) (s : State) : State := (s.relayed (.marker m)).atMarker

section
variable {s : State} (hreset : s.resetAsserted = false) (hlink : s.inPort.link = .up)
include hreset hlink

/-- A TRAILER marker with no slot missing. -/
theorem exec_trailerMarker_complete (h : s.tracker.tracking = .inRound → s.rx.phase = .slots → s.rx.slotCount ≤ s.rx.slots) :
    exec (.symbolReceived (.marker .trailer)) s = .next ((s.markerMet .trailer).collecting .trailer).finish := by
  have hstays : (s.markerMet .trailer).trailerMarker = s.markerMet .trailer := by
    rw [State.trailerMarker, if_neg]
    rw [Bool.and_eq_true, Bool.and_eq_true, State.inRound_eq_true_iff, beq_iff_eq, decide_eq_true_eq]
    rintro ⟨⟨hr, hphase⟩, hlt⟩
    exact absurd (h hr hphase) (Nat.not_le_of_lt hlt)
  rw [exec_marker_relayed hreset hlink]
  dsimp only
  exact next_congr (congrArg (State.collecting .trailer) hstays)

/-- A RESTART or ENUM marker. -/
theorem exec_markerInside {m : Marker} {c : Collect} (h : m = .restart ∧ c = .restart ∨ m = .enumeration ∧ c = .enumeration) :
    exec (.symbolReceived (.marker m)) s = .next ((s.markerMet m).markerInside.collecting c).finish := by
  rw [exec_marker_relayed hreset hlink]
  rcases h with ⟨rfl, rfl⟩ | ⟨rfl, rfl⟩ <;> rfl

theorem exec_headerMarker :
    exec (.symbolReceived (.marker .roundHeader)) s =
      .next ((s.markerMet .roundHeader).headerMarker.settle.collecting .header).finish :=
  exec_marker_relayed hreset hlink .roundHeader

end

/-! ### The structure that a word completes -/

namespace State.HandsWord

section
variable {s u : State} {sym : Symbol} {w : RxWord} (h : s.HandsWord sym w u)
include h

theorem taken_tracker : u.taken.tracker = s.tracker := h.frame.2.1

theorem rx_eq : u.rx = s.rx := h.frame.2.2.1

/-- A word that completes no structure is kept with those before it. -/
theorem push_eq : u.push w = { u with rx := { u.rx with buf := s.rx.buf ++ [w] } } := by
  rw [State.push, ← h.rx_eq]

theorem isTransparent (ht : s.IsTransparent) : u.taken.IsTransparent :=
  ⟨h.frame.1, by rw [h.taken_tracker]; exact ht.2⟩

theorem exec_behindMarker (hc : s.rx.collect = .header ∨ s.rx.collect = .restart) (hb : s.rx.buf.length < 2) :
    Machine.exec (.symbolReceived sym) s = .next (u.push w).finish := by
  rw [h.exec, State.rxData_behindMarker (by rw [h.rx_eq]; exact hc) (by rw [h.rx_eq]; exact hb)]

theorem exec_inFrame (hc : s.rx.collect = .enumeration) (hb : s.rx.buf.length < 3) :
    Machine.exec (.symbolReceived sym) s = .next (u.push w).finish := by
  rw [h.exec, State.rxData_inFrame (by rw [h.rx_eq]; exact hc) (by rw [h.rx_eq]; exact hb)]

theorem exec_header {a b : RxWord} (hc : s.rx.collect = .header) (hb : s.rx.buf = [a, b]) :
    Machine.exec (.symbolReceived sym) s = .next (u.taken.headerWords a b w).finish := by
  rw [h.exec, State.rxData_header (by rw [h.rx_eq]; exact hc) (by rw [h.rx_eq]; exact hb)]

theorem exec_restart {a b : RxWord} (hc : s.rx.collect = .restart) (hb : s.rx.buf = [a, b]) :
    Machine.exec (.symbolReceived sym) s = .next (u.taken.restartWords a b w).finish := by
  rw [h.exec, State.rxData_restart (by rw [h.rx_eq]; exact hc) (by rw [h.rx_eq]; exact hb)]

theorem exec_enumeration {a b c : RxWord} (hc : s.rx.collect = .enumeration) (hb : s.rx.buf = [a, b, c]) :
    Machine.exec (.symbolReceived sym) s = .next (u.taken.enumWords a b c w).finish := by
  rw [h.exec, State.rxData_enumeration (by rw [h.rx_eq]; exact hc) (by rw [h.rx_eq]; exact hb)]

theorem exec_trailer (hc : s.rx.collect = .trailer) :
    Machine.exec (.symbolReceived sym) s = .next (u.taken.trailerWord w).finish := by
  rw [h.exec, State.rxData_trailer (by rw [h.rx_eq]; exact hc)]

theorem exec_round (hc : s.rx.collect = .round) : Machine.exec (.symbolReceived sym) s = .next (u.roundWord w).finish := by
  rw [h.exec, State.rxData_round (by rw [h.rx_eq]; exact hc)]

/-- At a transparent node the words of a RESTART marker take it into ENUMERATING (R26). -/
theorem exec_restart_transparent (ht : s.IsTransparent) {a b : RxWord} (hc : s.rx.collect = .restart) (hb : s.rx.buf = [a, b]) :
    ∃ t : State, Machine.exec (.symbolReceived sym) s = .next t.finish ∧ RingRestarted u.taken t ∧ t.inPort = u.inPort ∧
      t.tracker = s.tracker.attempt (if s.tracker.tracking = .isolated then 0 else s.tracker.failed) ∧
      u.Sent t ((originated s.tracker).drop 1) ∧ t.events = s.events.raise s.config .ringRestarted ∧ t.counters = u.counters := by
  obtain ⟨-, -, -, hevents, hconfig⟩ := h.frame
  have hres := State.enterEnumerating_restarts u.taken
  rw [h.taken_tracker] at hres
  refine ⟨_, (h.exec_restart hc hb).trans (next_congr ((h.isTransparent ht).restartWords a b w)), hres.blocks, hres.inPort, ?_,
    hres.sent, ?_, hres.counters⟩
  · rw [hres.tracker, h.taken_tracker]
    rfl
  · rw [hres.events, ← hevents, ← hconfig]
    rfl

/-- A word of a cell (R3). -/
theorem exec_slots (hc : s.rx.collect = .round) (hr : s.tracker.tracking = .inRound) (hphase : s.rx.phase = .slots) :
    Machine.exec (.symbolReceived sym) s = .next (u.slotWord w).finish := by
  rw [h.exec_round hc, State.roundWord_slots (by rw [h.frame.2.1]; exact hr) (by rw [h.rx_eq]; exact hphase)]

/-- A word of a message (R3). -/
theorem exec_open (hc : s.rx.collect = .round) (hr : s.tracker.tracking = .inRound) (hphase : s.rx.phase = .openRegion) :
    Machine.exec (.symbolReceived sym) s = .next (u.openWord w).finish := by
  rw [h.exec_round hc, State.roundWord_open (by rw [h.frame.2.1]; exact hr) (by rw [h.rx_eq]; exact hphase)]

/-- A word between rounds (R8, log entry 12). -/
theorem exec_outside (hc : s.rx.collect = .round) (hr : s.tracker.tracking = .inRound) (hphase : s.rx.phase = .outside) :
    Machine.exec (.symbolReceived sym) s = .next (State.finish
      (if s.tracker.role = .master ∨ s.rx.outsideRun = true then u
      else { u with rx := { u.rx with outsideRun := true }, counters := (u.count .framingFault).counters })) := by
  have htracker := h.frame.2.1
  have hword : u.roundWord w = if u.isMaster then u else u.outsideData := by
    rw [State.roundWord, State.inRound_of (by rw [htracker]; exact hr), h.rx_eq, hphase]
    rfl
  rw [h.exec_round hc, hword]
  cases hrole : s.tracker.role with
  | master => rw [State.isMaster_of (by rw [htracker]; exact hrole), if_pos rfl, if_pos (.inl rfl)]
  | member =>
    rw [State.not_isMaster_of (by rw [htracker]; exact hrole), if_neg Bool.false_ne_true, State.outsideData_eq, h.rx_eq]
    simp

end

end State.HandsWord

/-- Settles O5. -/
theorem inputLink : Obligations.InputLink := by
  refine ⟨fun s hreset h => ?_, fun sym s h => exec_symbol_down h sym, fun s hreset h hlt => ?_, fun sym s hreset h hsym => ?_,
    fun s h h32 => ?_, fun s hreset h => ?_, fun s hreset h => ?_,
    fun m s u hreset hlink hu => ⟨fun hm hno => ?_, fun c hmc => ?_, fun hm => ?_⟩, fun sym w s u h => ?_⟩
  · exact (next_released hreset State.signalOn).trans (next_congr (if_pos h))
  · rw [exec_symbol_training hreset h, if_pos rfl, Nat.min_eq_right hlt]
  · rw [exec_symbol_training hreset h, if_neg hsym]
  · exact exec_of_ready (w := .linkUp) rfl (by simp [Work.ready, h, Config.trainingIdles, h32])
  · refine (next_released hreset State.signalLost).trans (next_congr ?_)
    rw [State.signalLost, h]
  · rw [exec_symbol hreset, State.symbolArrives, h]
    refine next_congr ?_
    show State.relay .idle { s with inPort := { s.inPort with errorRun := 0 } } = _
    rw [State.relay]
    exact if_neg (by simp)
  · subst hm hu
    exact exec_trailerMarker_complete hreset hlink hno
  · have hmet : s.markerMet m = u := hu.symm
    have htracker : u.tracker = s.tracker := by rw [hu]
    have hphase : u.rx.phase = s.rx.phase := by rw [hu]
    rw [exec_markerInside hreset hlink hmc, hmet]
    refine ⟨fun h => ?_, fun hr habs => ?_, fun hr hin => ?_⟩
    · have hquiet : u.markerInside = u := State.markerInside_quiet fun hk => by
        rw [htracker] at hk
        exact ⟨hphase.trans (h.resolve_left (not_not_intro hk)), by rw [hu]⟩
      rw [hquiet, hu]
      rfl
    · rw [State.markerInside_absorbing (by rw [htracker]; exact hr) (by rw [hphase]; exact habs)]
      rfl
    · have hin' : u.InsideRound := by rw [State.InsideRound, hphase]; exact hin
      rw [State.markerInside_inside (by rw [htracker]; exact hr) hin', hu]
      rfl
  · subst hm
    have hmet : s.markerMet .roundHeader = u := hu.symm
    have htracker : u.tracker = s.tracker := by rw [hu]
    rw [exec_headerMarker hreset hlink, hmet]
    refine ⟨fun hr hdue => ?_, fun hr hphase hdue => ?_⟩
    · rw [State.headerMarker_elsewhere (by rw [htracker]; exact hr), State.settle_of_due_nil hdue, hu]
      rfl
    · rw [State.headerMarker_between (by rw [htracker]; exact hr) (by rw [hu]; exact hphase), State.settle_of_due_nil
        (s := { u.heard with rx := if u.tracker.role = .master then {} else u.rx }) hdue, hu]
      dsimp only
      cases s.tracker.role <;> rfl
  · intro here more
    obtain ⟨hreset, htracker, hrx, -, -⟩ := h.frame
    have hmore : u.push w = more := h.push_eq
    have hquiet (hh : here) : u.taken.tracker.tracking ≠ .isolated ∧ u.taken.tracker.tracking ≠ .unnumbered ∧
        (u.taken.tracker.tracking = .inRound → u.taken.rx.phase = .outside ∧ u.taken.rx.outsideRun = false) := by
      rw [h.taken_tracker, show u.taken.rx.phase = u.rx.phase from rfl, show u.taken.rx.outsideRun = u.rx.outsideRun from rfl, hrx]
      exact hh
    refine ⟨fun hc hb => (h.exec_behindMarker hc hb).trans (next_congr hmore),
      fun hc hb => (h.exec_inFrame hc hb).trans (next_congr hmore),
      fun a b hb => ⟨fun hc hh hdue hheard => ?_, fun hc hh => ?_, fun ht => ⟨fun hc => ?_, fun hc => h.exec_restart_transparent ht hc hb⟩⟩,
      fun a b c hc hb => ⟨fun hh => ?_, fun ht => ?_⟩, fun hc hi hu => ?_, fun hc ht => ?_,
      fun hc => ⟨fun hr => ?_, fun hr => ⟨fun hphase => ⟨fun hb => ?_, fun x a b c d e hb => ?_⟩, fun hphase body hbody => ?_,
        fun hphase => ?_, fun hphase => h.exec_outside hc hr hphase⟩⟩⟩
    · obtain ⟨hi, hu, hr⟩ := hquiet hh
      rw [h.exec_header hc hb, exec_roundHeader (s := u.taken) hreset (.inl rfl),
        State.headerArrives_between a b w hi hu (fun hk => (hr hk).1) hdue hheard]
    · obtain ⟨hi, hu, hr⟩ := hquiet hh
      rw [h.exec_restart hc hb, exec_restartMarkerArrival (s := u.taken) hreset, State.restartArrives_of a b w hi hu,
        State.markerInside_quiet hr]
    · rw [h.exec_header hc hb, (h.isTransparent ht).headerWords, State.seePeriod, h.taken_tracker]
    · obtain ⟨hi, hu, hr⟩ := hquiet hh
      rw [h.exec_enumeration hc hb, exec_enumFrame (s := u.taken) hreset (.inl rfl), State.enumArrives,
        State.passOn_of_not_transparent _ hi hu, State.markerInside_quiet hr]
    · rw [h.exec_enumeration hc hb, State.enumWords]
      obtain ⟨-, hk | hk⟩ := h.isTransparent ht <;> rw [hk]
    · rw [h.exec_trailer hc]
      refine (next_congr ?_).trans (next_released (s := u.taken) hreset (State.trailerArrives w)).symm
      rw [State.trailerWord, State.trailerArrives, State.passOn_of_not_transparent _ (by rw [h.taken_tracker]; exact hi)
        (by rw [h.taken_tracker]; exact hu)]
    · rw [h.exec_trailer hc, State.trailerWord, (h.isTransparent ht).not_inRound_eq]
      rfl
    · rw [h.exec_round hc, State.roundWord, State.not_inRound_of (by rw [htracker]; exact hr)]
      rfl
    · rw [h.exec_slots hc hr hphase, State.slotWord_more (by rw [hrx]; exact hb), hmore]
    · rw [h.exec_slots hc hr hphase, State.slotWord_last (by rw [hrx]; exact hb)]
      exact (next_released (s := u.taken) hreset _).symm
    · have hknown : knownBody (u.rx.buf ++ [w]) = body := by
        rw [hrx, hbody]
        exact knownBody_eq _
      rw [h.exec_open hc hr hphase]
      refine ⟨fun hfault => ?_, fun h10 hcap => ?_⟩
      · rw [State.openWord_fault (by rw [hknown, hrx, htracker]; exact hfault)]
        rfl
      · have hword := State.openWord_fits (s := u) (w := w) (by rw [hknown]; exact h10) (by rw [hknown, hrx, htracker]; exact hcap)
        refine ⟨fun hlen => ?_, fun m hb hw hlen => ?_⟩
        · rw [hword, wordsMessage_short (by rw [hknown, List.length_append, hrx]; exact hlen), ← hmore]
        · have hwords : u.rx.buf ++ [w] = m.head0 :: m.head1 :: (m.body ++ [m.check]) := by rw [hrx, hb, hw]; rfl
          have hwhole : m.body.length = msgBodyLength m := by
            rw [hlen, ← hknown, hwords]
            rfl
          rw [hword, hwords, wordsMessage_whole hwhole]
          exact (next_released (s := u.taken) hreset _).symm
    · rw [h.exec_round hc, State.roundWord, State.inRound_of (by rw [htracker]; exact hr), hrx]
      rcases hphase with hphase | hphase <;> rw [hphase] <;> rfl

end Sys2Proof.Machine
end
